-- ==== Sys2Proof/Word.lean ====
section
/-! DEFINITION. The plain types of the part's numbers: octets, handset identities, handles, link and profile
slots, requester numbers, and four like things held side by side (the part has four link slots and four
profile slots). -/

namespace Sys2Proof

/-- One octet of a message (R186). -/
abbrev Byte := BitVec 8

/-- A handset's permanent identity, a 64-bit token (R1). -/
abbrev Identity := BitVec 64

/-- The index of a subscriber context, 0 to 2047 (R1). -/
abbrev Handle := Fin 2048

/-- A link slot, 0 to 3 (R132). -/
abbrev LinkId := Fin 4

/-- A zone-profile slot, 0 to 3 (R98). -/
abbrev ProfileId := Fin 4

/-- A requester number, 0 to 15 (R175). -/
abbrev RequesterId := Fin 16

/-- A timer of the part: stopped, or running with its remaining time in microseconds. -/
abbrev Timer := Option Nat

/-- Four values numbered 0 to 3: one for each link slot, or one for each profile slot. -/
structure Four (α : Type) where
  s0 : α
  s1 : α
  s2 : α
  s3 : α
  deriving DecidableEq, Repr

/-- The value numbered `i`. -/
def Four.get {α : Type} (f : Four α) (i : Fin 4) : α :=
  match i with
  | 0 => f.s0
  | 1 => f.s1
  | 2 => f.s2
  | 3 => f.s3

/-- The four values with number `i` replaced by `x`. -/
def Four.set {α : Type} (f : Four α) (i : Fin 4) (x : α) : Four α :=
  match i with
  | 0 => { f with s0 := x }
  | 1 => { f with s1 := x }
  | 2 => { f with s2 := x }
  | 3 => { f with s3 := x }

/-- The same function applied to each of the four. -/
def Four.map {α β : Type} (g : α → β) (f : Four α) : Four β :=
  ⟨g f.s0, g f.s1, g f.s2, g f.s3⟩

/-- The same value four times. -/
def Four.all {α : Type} (x : α) : Four α := ⟨x, x, x, x⟩

/-- The slot numbers in ascending order. -/
def slotIds : List (Fin 4) := [0, 1, 2, 3]

end Sys2Proof
end

