-- ==== Sys2Proof/Config.lean ====
section
/-! DEFINITION. The constants the manual fixes: sizes, ranges, defaults and widths. Nothing of the part is left to
an implementation and no result is left unstated, so there is no free value here (notes/assumptions/12.md). -/

namespace Sys2Proof.Config

/-- Contexts in the store, handles 0 to 2047 (R1). -/
def contextCount : Nat := 2048

/-- Requests an ingress queue holds (R177). -/
def queueDepth : Nat := 4

/-- Allowances a context holds (R56). -/
def allowanceCount : Nat := 4

/-- Home entries the Route Table holds (R152). -/
def homeEntryCount : Nat := 64

/-- The greatest count of the Voyage Clock and of a deadline, 2^32−1 (R7, R8). -/
def maxClock : Nat := 4294967295

/-- The greatest cap, in mu (R1). -/
def maxCap : Nat := 4294967295

/-- The greatest elapsed or billed count of a voice record (R1, R83). -/
def maxVoice : Nat := 1048575

/-- Network and operator codes end here (00_scope.md, R1, R132). -/
def maxCode : Nat := 999999

/-- The greatest balance of a UNITS allowance (R56). -/
def maxUnits : Nat := 4294967295

/-- The greatest balance of an OCTETS allowance, 2^40−1 (R56). -/
def maxOctets : Nat := 1099511627775

/-- The greatest balance of a SECONDS allowance (R56). -/
def maxSeconds : Nat := 1048575

/-- Most operator codes of a candidate list (R98). -/
def candidateCount : Nat := 6

/-- Microseconds that an idle step lets pass: the greatest time of which every timer's time is a multiple
(DESIGN CHOICE, notes/assumptions/3.md). -/
def tickMicros : Nat := 50

/-- Time from the release of the RESET line to the first message received, 2 ms (R195, section 11.4). -/
def settleMicros : Nat := 2000

/-- Microseconds in a millisecond. -/
def microsPerMs : Nat := 1000

/-- Microseconds in a second. -/
def microsPerSecond : Nat := 1000000

end Sys2Proof.Config
end

