-- ==== Sys2Proof/Syntax.lean ====
section
/-! DEFINITION. The commands of the part: one constructor for each row of spec/opcode_table.json. A request row
is the Request Engine's service of the request it holds (its operands lie in that request's body, in the ingress
queue), so it carries no operand of its own; a message carries its octets; the expiry of a link timer names the
link slot whose timer it is. -/

namespace Sys2Proof

/-- The part's commands and events, each whole and indivisible (95_what_each_step_holds.md). -/
inductive Instr where
  /-- Supplies become valid (R195). -/
  | powerOn
  /-- RESET_N is asserted (R195). -/
  | resetLine
  /-- A message, header and body octets, arrives on the link (R178, R187). -/
  | messageArrival (octets : List Byte)
  /-- The engine answers a held request whose kind is not in the catalogue (R182). -/
  | unknownRequest
  | attach
  | lookup
  | lookupHandle
  | openBearer
  | closeBearer
  | detach
  | retire
  | admitContext
  | refuse
  | nextProbation
  | nextSettlement
  | settleContext
  | addAllowance
  | removeAllowance
  | setCap
  | setPlan
  | reportUsage
  | holdStore
  /-- The arbiter's grant to the master hold takes effect (R21). -/
  | holdGrant
  | releaseStore
  /-- The hold timer reaches its limit (R25). -/
  | holdTimerExpiry
  /-- The Voyage Clock increases by one (R7, R11). -/
  | periodBoundary
  /-- One granted visit of the Expiry Sweep (R12). -/
  | sweepVisit
  | openProfile
  | writeProfileHeader
  | writeTariffRow
  | writeCandidates
  | readProfile
  | discardProfile
  | stageProfile
  | enterZone
  /-- The grace deadline is reached (R117). -/
  | graceExpiry
  | setCeiling
  | configureLink
  | probeResult
  /-- The dwell timer of a link slot expires (R139). -/
  | dwellExpiry (slot : LinkId)
  /-- The track monitor of a link slot expires (R143). -/
  | trackMonitorExpiry (slot : LinkId)
  /-- The carry monitor of a link slot expires (R145). -/
  | carryMonitorExpiry (slot : LinkId)
  | openLink
  | closeLink
  | setRoute
  | clearRoute
  | readRoute
  | shift
  | abortShift
  /-- One granted step of a FAILOVER walk (R165). -/
  | failoverStep
  /-- One granted step of an UNPARK walk (R168). -/
  | unparkStep
  /-- One granted step of a SHIFT walk (R170). -/
  | shiftStep
  /-- One granted step of a DARK walk (R128). -/
  | darkStep
  | configureRequester
  | readEvents
  | setEventMask
  | ackEvents
  /-- The quiet timer expires (R194). -/
  | quietTimerExpiry
  | setLimits
  | start
  | readStatus
  | clearVoyage
  /-- RESET_N is released (R195). -/
  | resetRelease
  deriving DecidableEq, Repr

end Sys2Proof
end

