-- ==== Sys2Proof/Machine/State.lean ====
section
/-! DEFINITION. Every piece of state the manual gives the part, as plain data, and its values after reset. The
blocks of the part are the fields of `State`; the manual's table of blocks (00_scope.md) says what each owns. -/

namespace Sys2Proof.Machine

/-! ## Names of the manual -/

/-- Run states (R196). -/
inductive RunState where
  | configuring | running
  deriving DecidableEq, Repr

/-- Lifecycle states of a context (R28). -/
inductive CtxState where
  | free | probation | idle | carrying | parked | linger
  deriving DecidableEq, Repr

/-- What happens when the cap is reached (R1). -/
inductive Policy where
  | bar | slow
  deriving DecidableEq, Repr

/-- What an allowance's balance is counted in (R56). -/
inductive AllowanceKind where
  | units | octets | seconds
  deriving DecidableEq, Repr

/-- Kinds of bearer (R43). -/
inductive BearerKind where
  | voice | data
  deriving DecidableEq, Repr

/-- Causes of CONTEXT_RETIRED (R50). -/
inductive Cause where
  | probationExpired | idleExpired | parkExpired | detached
  deriving DecidableEq, Repr

/-- Coverage modes (R119). -/
inductive Mode where
  | serve | quiet | darkening | dark
  deriving DecidableEq, Repr

/-- The values of a coverage permit and of the master ceiling, and the target formed from the two (R98, R119, R120). -/
inductive Permit where
  | serve | quiet | dark
  deriving DecidableEq, Repr

/-- Tariff columns (R77). -/
inductive Column where
  | shore | sat
  deriving DecidableEq, Repr

/-- Roles of a profile slot (R99). -/
inductive Role where
  | free | opened | staged | live | grace
  deriving DecidableEq, Repr

/-- Configured kinds of a link slot (R132). -/
inductive LinkKind where
  | unused | shore | sat
  deriving DecidableEq, Repr

/-- Link states (R132). -/
inductive LinkState where
  | off | scan | track | carry
  deriving DecidableEq, Repr

/-- The carry base of a link slot (R132). -/
inductive CarryBase where
  | ms10 | ms100
  deriving DecidableEq, Repr

/-- Requester classes (R175). -/
inductive RequesterClass where
  | master | cell | meter | link | unused
  deriving DecidableEq, Repr

/-- Walks of the Migration Engine (R161). -/
inductive WalkKind where
  | failover | shift | unpark | dark
  deriving DecidableEq, Repr

/-- Pass states of the Expiry Sweep (R10). -/
inductive PassState where
  | waiting | passing
  deriving DecidableEq, Repr

/-- States of the master hold (R21). -/
inductive HoldState where
  | notHeld | requested | held
  deriving DecidableEq, Repr

/-- Contenders at the Store Arbiter (R18): the master hold, the sweep's visit, the step of a walk, the Request
Engine's request. -/
inductive Contender where
  | hold
  | sweep
  | walk (kind : WalkKind)
  | request
  deriving DecidableEq, Repr

/-- States of the Store Arbiter (R18). -/
inductive Arbiter where
  | idle
  | granted (contender : Contender)
  | held
  deriving DecidableEq, Repr

/-- States of the Request Engine (R179); the request held is the head of the ingress queue named. -/
inductive EngineState where
  | idle
  | awaitingGrant (requester : RequesterId)
  | serving (requester : RequesterId)
  deriving DecidableEq, Repr

/-- Quiet times (R194, R197). -/
inductive QuietTime where
  | zero | us50 | ms1 | ms10
  deriving DecidableEq, Repr

/-- Status codes of an answer (R185). -/
inductive Status where
  | ok | unchanged | empty | busy | disabled | notPermitted | unknownRequest | notStarted | badField
  | badProfile | noContext | noEntry | wrongState | full | refusedByMode | barred | noRoute | ineligible
  | engineBusy | tooLate
  deriving DecidableEq, Repr

/-- The request kinds of the catalogue (R188). -/
inductive Kind where
  | attach | lookup | lookupHandle | openBearer | closeBearer | detach | retire | admitContext | refuse
  | nextProbation | nextSettlement | settleContext | addAllowance | removeAllowance | setCap | setPlan
  | reportUsage | holdStore | releaseStore | openProfile | writeProfileHeader | writeTariffRow
  | writeCandidates | readProfile | discardProfile | stageProfile | enterZone | setCeiling | configureLink
  | probeResult | openLink | closeLink | setRoute | clearRoute | readRoute | shift | abortShift
  | configureRequester | readEvents | setEventMask | ackEvents | setLimits | start | readStatus | clearVoyage
  deriving DecidableEq, Repr

/-- The events of the Event Set (R190). -/
inductive Event where
  | contextRetired | allowanceSpent | capReached | linkFound | linkLost | linkLapsed | linkWeak | shiftDone
  | shiftAborted | failoverDone | graceEnded | coverageChanged | holdRevoked | attachWaiting | settleWaiting
  | profileMissing | backhaulLost
  deriving DecidableEq, Repr

/-! ## Messages -/

/-- A request in an ingress queue (R187). The requester number is the queue's. -/
structure Message where
  kind : Byte
  tag : Byte
  body : List Byte
  deriving DecidableEq, Repr

/-- An answer sent on the message link (R188). -/
structure Answer where
  requester : RequesterId
  kind : Byte
  tag : Byte
  status : Status
  body : List Byte
  deriving DecidableEq, Repr

/-! ## The Context Store -/

/-- One prepaid allowance (R56). -/
structure Allowance where
  kind : AllowanceKind
  balance : Nat
  tag : Byte
  deriving DecidableEq, Repr

/-- The running account of one voice bearer (R1, section 4.4). -/
structure VoiceRecord where
  elapsed : Nat
  billed : Nat
  fraction : Nat
  emergency : Bool
  deriving DecidableEq, Repr

/-- A subscriber context: every field of R1's table, in its order. -/
structure Context where
  state : CtxState
  identity : Option Identity
  home : Nat
  cell : Fin 32
  route : Option LinkId
  plan : Fin 8
  cap : Nat
  policy : Policy
  overrun : Nat
  barred : Bool
  slow : Bool
  allowances : List Allowance
  remainder : Nat
  voiceOpen : Bool
  voiceEmergency : Bool
  dataOpen : Bool
  voice : Option VoiceRecord
  deadline : Option Nat
  handed : Bool
  lingerOpen : Bool
  deriving DecidableEq, Repr

/-- The FREE values of R1. -/
def Context.free : Context where
  state := .free
  identity := none
  home := 0
  cell := 0
  route := none
  plan := 0
  cap := 0
  policy := .bar
  overrun := 0
  barred := false
  slow := false
  allowances := []
  remainder := 0
  voiceOpen := false
  voiceEmergency := false
  dataOpen := false
  voice := none
  deadline := none
  handed := false
  lingerOpen := false

/-- The Context Store with what stands beside it: the records (a handle that is not listed holds the FREE values,
and the list is in rising order of handle with no FREE record listed), the Identity Index, the two lifecycle
queues, the free handle count and the route counts. -/
structure Store where
  contexts : List (Handle × Context)
  index : List (Identity × Handle)
  probation : List Handle
  settlement : List Handle
  freeCount : Nat
  routeCounts : Four Nat
  deriving DecidableEq, Repr

/-- The Expiry Sweep (R10). -/
structure Sweep where
  pass : PassState
  cursor : Handle
  urgent : Bool
  deriving DecidableEq, Repr

/-- The master hold (R21, R25). `expiryDue` is set where the hold timer has reached its limit while a request is
in service, so that the expiry waits for that request's answer (R25). -/
structure Hold where
  state : HoldState
  timer : Timer
  expiryDue : Bool
  deriving DecidableEq, Repr

/-! ## Zone profiles -/

/-- One tariff row (R78, R98). -/
structure TariffRow where
  blockSize : Nat
  dataPrice : Nat
  voicePrice : Nat
  increment : Nat
  minimum : Nat
  written : Bool
  deriving DecidableEq, Repr

/-- An unwritten row: values zero (R98). -/
def TariffRow.unwritten : TariffRow := ⟨0, 0, 0, 0, 0, false⟩

/-- A row of the default profile (R100). -/
def TariffRow.default : TariffRow := ⟨1024, 0, 0, 1, 0, true⟩

/-- A profile slot: its role and the profile it holds (R98). The sixteen rows stand in order of plan class, the
SHORE row of a class before its SAT row. -/
structure ProfileSlot where
  role : Role
  zone : Nat
  permit : Permit
  eligible : Four Bool
  candidates : Four (List Nat)
  parkLimit : Nat
  graceWindow : Nat
  rows : Vector TariffRow 16
  deriving DecidableEq, Repr

/-- A slot with cleared fields in the given role (R98). -/
def ProfileSlot.cleared (role : Role) : ProfileSlot where
  role := role
  zone := 0
  permit := .dark
  eligible := Four.all false
  candidates := Four.all []
  parkLimit := 0
  graceWindow := 0
  rows := Vector.replicate 16 TariffRow.unwritten

/-- The default profile, LIVE (R100). -/
def ProfileSlot.default : ProfileSlot where
  role := .live
  zone := 0
  permit := .dark
  eligible := Four.all false
  candidates := Four.all []
  parkLimit := 0
  graceWindow := 0
  rows := Vector.replicate 16 TariffRow.default

/-- The Profile Bank (R98, R101). -/
structure Bank where
  slots : Four ProfileSlot
  presentZone : Nat
  graceDeadline : Option Nat
  deriving DecidableEq, Repr

/-- Coverage Control (R119). -/
structure Coverage where
  mode : Mode
  ceiling : Permit
  deriving DecidableEq, Repr

/-! ## Links, routes and migration -/

/-- A link slot: its eight settings and its link state (R132). -/
structure LinkSlot where
  kind : LinkKind
  satOperator : Nat
  scanDwell : Nat
  trackTime : Nat
  carryBase : CarryBase
  f1 : Nat
  f2 : Nat
  demoteThreshold : Nat
  demoteCount : Nat
  state : LinkState
  cursor : Nat
  tracked : Option Nat
  quality : Option Nat
  demoteCounter : Nat
  dwell : Timer
  trackMonitor : Timer
  carryMonitor : Timer
  deriving DecidableEq, Repr

/-- A link slot after power-on and the RESET line (R132). -/
def LinkSlot.initial : LinkSlot where
  kind := .unused
  satOperator := 0
  scanDwell := 30
  trackTime := 20
  carryBase := .ms100
  f1 := 10
  f2 := 5
  demoteThreshold := 12
  demoteCount := 3
  state := .off
  cursor := 0
  tracked := none
  quality := none
  demoteCounter := 0
  dwell := none
  trackMonitor := none
  carryMonitor := none

/-- The Route Table (R152): home entries in rising order of home code, and the default list. -/
structure RouteTable where
  homes : List (Nat × List LinkId)
  default : List LinkId
  deriving DecidableEq, Repr

/-- A walk with its cursor and end mark (R161). -/
structure Walk where
  kind : WalkKind
  cursor : Handle
  endMark : Handle
  deriving DecidableEq, Repr

/-- The pending orders: at most one of each kind (R161). -/
structure Orders where
  failover : Bool
  dark : Bool
  shift : Bool
  unpark : Bool
  deriving DecidableEq, Repr

/-- The SHIFT record (R161). -/
structure ShiftRecord where
  src : LinkId
  dst : LinkId
  moved : Nat
  deriving DecidableEq, Repr

/-- The Migration Engine (R158 to R161). -/
structure Migration where
  walk : Option Walk
  suspended : Option Walk
  orders : Orders
  shift : Option ShiftRecord
  parkedCount : Nat
  lost : Four Bool
  draining : Option LinkId
  parkedTotal : Nat
  deriving DecidableEq, Repr

/-- The Migration Engine with nothing in it (R158 to R161). -/
def Migration.initial : Migration where
  walk := none
  suspended := none
  orders := ⟨false, false, false, false⟩
  shift := none
  parkedCount := 0
  lost := Four.all false
  draining := none
  parkedTotal := 0

/-! ## The Request Port -/

/-- An entry of the requester table with its ingress queue, oldest request first (R175, R177). -/
structure PortEntry where
  cls : RequesterClass
  level : Nat
  queue : List Message
  deriving DecidableEq, Repr

/-- An entry of requester numbers 1 to 15 after reset (R175). -/
def PortEntry.unused : PortEntry := ⟨.unused, 0, []⟩

/-- Entry 0 after reset (R175). -/
def PortEntry.master : PortEntry := ⟨.master, 7, []⟩

/-- The Request Port and the Request Engine (R175, R177, R179, R195). `entries` holds the sixteen entries in order
of requester number. `settle` is the time that must still pass before the first message after a release of the
RESET line is received; `sent` is the transcript of the answers sent on the link, oldest first, which no rule of
the part reads (DESIGN CHOICE, notes/assumptions/5.md). -/
structure Port where
  resetAsserted : Bool
  settle : Nat
  entries : Vector PortEntry 16
  engine : EngineState
  sent : List Answer
  deriving DecidableEq, Repr

/-! ## Events and limits -/

/-- The details of the events that have one (R190). -/
structure Details where
  retiredHandle : Handle
  retiredCause : Option Cause
  spentHandle : Handle
  spentTag : Byte
  capHandle : Handle
  foundSlot : Option LinkId
  lostSlot : Option LinkId
  lapsedSlot : Option LinkId
  weakSlot : Option LinkId
  shiftMoved : Nat
  abortMoved : Nat
  failoverParked : Nat
  graceZone : Nat
  coverageMode : Option Mode
  missingZone : Nat
  deriving DecidableEq, Repr

/-- Every detail zero, or none where it is a slot, a mode or a cause (R190). -/
def Details.initial : Details :=
  ⟨0, none, 0, 0, 0, none, none, none, none, 0, 0, 0, 0, none, 0⟩

/-- The Event Set and the attention line (R190, R194). In `pendingSet` and `mask` bit n is event number n, as the
sets are carried (R186). -/
structure EventSet where
  pendingSet : BitVec 17
  mask : BitVec 17
  details : Details
  quiet : Timer
  attention : Bool
  deriving DecidableEq, Repr

/-- The five limits (R197). -/
structure Limits where
  probation : Nat
  idle : Nat
  linger : Nat
  hold : Nat
  quiet : QuietTime
  deriving DecidableEq, Repr

/-! ## The machine -/

/-- The state of the part, block by block, and the queue of commands that wait. -/
structure State where
  runState : RunState
  clock : Nat
  store : Store
  sweep : Sweep
  arbiter : Arbiter
  hold : Hold
  bank : Bank
  coverage : Coverage
  links : Four LinkSlot
  routes : RouteTable
  migration : Migration
  port : Port
  events : EventSet
  limits : Limits
  pending : List Instr
  deriving DecidableEq, Repr

/-- Why a step stops with a fault. No rule of the manual stops the part, so there is no constructor: no meaning
raises a fault. -/
inductive Fault where
  deriving DecidableEq, Repr

/-- Why a command has no meaning. -/
inductive Refusal where
  /-- Raised by exec's arm of a command that has no meaning in the model; safe, since the run stops. No arm of
  this model raises it. -/
  | notModelled (mnemonic : String)
  deriving DecidableEq, Repr

/-- The part after power-on or the release of the RESET line, ready to take messages (R195). -/
def State.reset : State where
  runState := .configuring
  clock := 0
  store :=
    { contexts := [], index := [], probation := [], settlement := [], freeCount := Config.contextCount
      routeCounts := Four.all 0 }
  sweep := { pass := .waiting, cursor := 0, urgent := false }
  arbiter := .idle
  hold := { state := .notHeld, timer := none, expiryDue := false }
  bank :=
    { slots := ⟨ProfileSlot.default, ProfileSlot.cleared .free, ProfileSlot.cleared .free, ProfileSlot.cleared .free⟩
      presentZone := 0
      graceDeadline := none }
  coverage := { mode := .dark, ceiling := .serve }
  links := Four.all LinkSlot.initial
  routes := { homes := [], default := [0, 1, 2, 3] }
  migration := Migration.initial
  port :=
    { resetAsserted := false, settle := 0, entries := (Vector.replicate 16 PortEntry.unused).set 0 PortEntry.master
      engine := .idle, sent := [] }
  events := { pendingSet := 0, mask := BitVec.allOnes 17, details := Details.initial, quiet := none, attention := false }
  limits := { probation := 30, idle := 3600, linger := 120, hold := 250, quiet := .ms1 }
  pending := []

end Sys2Proof.Machine
end

