-- ==== Sys2Proof/Machine/Access.lean ====
section
/-! DEFINITION. Reading and writing the part's tables: the context table in its one canonical form, the Identity
Index, the profile slots by role, the link slots, the requester entries. -/

namespace Sys2Proof.Machine

/-! ## The context table -/

/-- The record listed for a handle, or the FREE values where none is listed (R1). -/
def lookupContext : List (Handle × Context) → Handle → Context
  | [], _ => Context.free
  | (k, c) :: rest, h => if k = h then c else lookupContext rest h

/-- A pair put before the first listed pair of a higher handle. -/
def insertContext (h : Handle) (c : Context) : List (Handle × Context) → List (Handle × Context)
  | [] => [(h, c)]
  | (k, x) :: rest => if h < k then (h, c) :: (k, x) :: rest else (k, x) :: insertContext h c rest

/-- The table with `c` held at `h`, in canonical form: a record of FREE values is not listed. -/
def replaceContext (h : Handle) (c : Context) (table : List (Handle × Context)) : List (Handle × Context) :=
  let others := table.filter (fun e => e.1 ≠ h)
  if c = Context.free then others else insertContext h c others

/-- The canonical form: handles strictly rising, and no FREE record listed. -/
def contextsWf (table : List (Handle × Context)) : Bool :=
  decide (table.Pairwise (fun a b => a.1 < b.1)) && table.all (fun e => e.2 ≠ Context.free)

/-- The context held at a handle. -/
def State.ctx (s : State) (h : Handle) : Context := lookupContext s.store.contexts h

/-- The first handle from `h` on, of at most `fuel` handles, that satisfies `p`. -/
def searchHandle (p : Handle → Bool) : Nat → Nat → Option Handle
  | 0, _ => none
  | fuel + 1, h =>
    if bound : h < 2048 then
      if p ⟨h, bound⟩ then some ⟨h, bound⟩ else searchHandle p fuel (h + 1)
    else none

/-- The lowest-numbered FREE handle, or none (R2). -/
def State.lowestFree (s : State) : Option Handle :=
  searchHandle (fun h => (s.ctx h).state = .free) 2048 0

/-- The handle of the Identity Index entry with this identity, compared in full (R6). -/
def State.indexed (s : State) (identity : Identity) : Option Handle :=
  (s.store.index.find? (fun e => e.1 = identity)).map (·.2)

/-- The first entry of the Probation Queue, from the head, that is not handed (R34). -/
def State.firstUnhanded (s : State) : Option Handle :=
  s.store.probation.find? (fun h => !(s.ctx h).handed)

/-! ## Profiles -/

/-- The lowest profile slot in a role, or none. -/
def State.slotIn (s : State) (role : Role) : Option ProfileId :=
  slotIds.find? (fun i => (s.bank.slots.get i).role = role)

/-- The LIVE slot: exactly one slot is LIVE by R99. -/
def State.liveSlot (s : State) : ProfileId := (s.slotIn .live).getD 0

/-- The LIVE profile. -/
def State.live (s : State) : ProfileSlot := s.bank.slots.get s.liveSlot

/-- The zone code of the profile in a role, or none. -/
def State.zoneIn (s : State) (role : Role) : Option Nat :=
  (s.slotIn role).map (fun i => (s.bank.slots.get i).zone)

/-- The profile bank with one slot replaced. -/
def State.setSlot (s : State) (i : ProfileId) (p : ProfileSlot) : State :=
  { s with bank := { s.bank with slots := s.bank.slots.set i p } }

/-- The place of a tariff row among the sixteen: rows in order of plan class, SHORE before SAT. -/
def rowIndex (plan : Fin 8) (column : Column) : Fin 16 :=
  match column with
  | .shore => ⟨2 * plan.val, by omega⟩
  | .sat => ⟨2 * plan.val + 1, by omega⟩

/-- The tariff row of a profile for a plan class and column (R98). -/
def ProfileSlot.row (p : ProfileSlot) (plan : Fin 8) (column : Column) : TariffRow :=
  p.rows.get (rowIndex plan column)

/-- The number of rows written, 0 to 16 (R105, R109). -/
def ProfileSlot.rowsWritten (p : ProfileSlot) : Nat := p.rows.toList.countP (·.written)

/-! ## Links, requesters, lost set -/

/-- A link slot's record. -/
def State.link (s : State) (i : LinkId) : LinkSlot := s.links.get i

/-- The state with a link slot's record replaced. -/
def State.setLink (s : State) (i : LinkId) (l : LinkSlot) : State := { s with links := s.links.set i l }

/-- Whether a slot is in the lost set (R159). -/
def State.isLost (s : State) (i : LinkId) : Bool := s.migration.lost.get i

/-- Whether the LIVE profile makes a slot eligible (R98). -/
def State.eligible (s : State) (i : LinkId) : Bool := s.live.eligible.get i

/-- Whether some link slot is in CARRY (R167, R191). -/
def State.anyCarry (s : State) : Bool := slotIds.any (fun i => (s.link i).state = .carry)

/-- A requester's entry with its queue (R175, R177). -/
def State.entry (s : State) (r : RequesterId) : PortEntry := s.port.entries.get r

/-- The state with a requester's entry replaced. -/
def State.setEntry (s : State) (r : RequesterId) (e : PortEntry) : State :=
  { s with port := { s.port with entries := s.port.entries.set r.val e r.isLt } }

/-- The requester numbers in ascending order. -/
def requesterIds : List RequesterId := [0, 1, 2, 3, 4, 5, 6, 7, 8, 9, 10, 11, 12, 13, 14, 15]

/-! ## Routes -/

/-- The list of the home entry with this key, or none (R152). -/
def RouteTable.own (t : RouteTable) (home : Nat) : Option (List LinkId) :=
  (t.homes.find? (fun e => e.1 = home)).map (·.2)

/-- The list that applies to a home (R152). -/
def RouteTable.applies (t : RouteTable) (home : Nat) : List LinkId := (t.own home).getD t.default

/-- A home entry put before the first entry of a higher key. -/
def insertHome (home : Nat) (list : List LinkId) : List (Nat × List LinkId) → List (Nat × List LinkId)
  | [] => [(home, list)]
  | (k, x) :: rest => if home < k then (home, list) :: (k, x) :: rest else (k, x) :: insertHome home list rest

/-- The table with a home entry added or replaced (R153). -/
def RouteTable.put (t : RouteTable) (home : Nat) (list : List LinkId) : RouteTable :=
  { t with homes := insertHome home list (t.homes.filter (fun e => e.1 ≠ home)) }

/-- The table without a home entry (R154). -/
def RouteTable.remove (t : RouteTable) (home : Nat) : RouteTable :=
  { t with homes := t.homes.filter (fun e => e.1 ≠ home) }

/-! ## Candidate lists -/

/-- The candidate list of a link slot (R137). -/
def State.candidates (s : State) (i : LinkId) : List Nat :=
  match (s.link i).kind with
  | .unused => []
  | .shore => s.live.candidates.get i
  | .sat => [(s.link i).satOperator]

/-- What the modem of a slot is told to try or to hold (R136). -/
def State.tryOperator (s : State) (i : LinkId) : Option Nat :=
  match (s.link i).state with
  | .off => none
  | .scan => (s.candidates i)[(s.link i).cursor]?
  | .track => (s.link i).tracked
  | .carry => (s.link i).tracked

end Sys2Proof.Machine
end

