-- ==== Sys2Proof/Machine/Flags.lean ====
section
/-! DEFINITION. The Event Set: raising an event with its detail, the four condition-cleared events, and the
attention line (chapter 10). -/

namespace Sys2Proof.Machine

/-- The number of an event (R190). -/
def Event.num : Event → Nat
  | .contextRetired => 0
  | .allowanceSpent => 1
  | .capReached => 2
  | .linkFound => 3
  | .linkLost => 4
  | .linkLapsed => 5
  | .linkWeak => 6
  | .shiftDone => 7
  | .shiftAborted => 8
  | .failoverDone => 9
  | .graceEnded => 10
  | .coverageChanged => 11
  | .holdRevoked => 12
  | .attachWaiting => 13
  | .settleWaiting => 14
  | .profileMissing => 15
  | .backhaulLost => 16

/-- The set that holds one event. -/
def Event.bit (e : Event) : BitVec 17 := 1#17 <<< e.num

/-- The events that ACK_EVENTS does not clear: numbers 13 to 16 (R191). -/
def conditionCleared : BitVec 17 := 0x1E000#17

/-- Whether an event is pending. -/
def State.isPending (s : State) (e : Event) : Bool := s.events.pendingSet.getLsbD e.num

/-- An occurrence of an event: its flag is set and the details are replaced, pending or not, masked or not (R190). -/
def State.raise (s : State) (e : Event) (details : Details) : State :=
  { s with events := { s.events with pendingSet := s.events.pendingSet ||| e.bit, details := details } }

/-- CONTEXT_RETIRED with handle and cause (R190). -/
def State.raiseRetired (s : State) (h : Handle) (cause : Cause) : State :=
  s.raise .contextRetired { s.events.details with retiredHandle := h, retiredCause := some cause }

/-- ALLOWANCE_SPENT with handle and tag (R58, R93). -/
def State.raiseSpent (s : State) (h : Handle) (tag : Byte) : State :=
  s.raise .allowanceSpent { s.events.details with spentHandle := h, spentTag := tag }

/-- CAP_REACHED with the handle (R67). -/
def State.raiseCap (s : State) (h : Handle) : State :=
  s.raise .capReached { s.events.details with capHandle := h }

/-- LINK_FOUND with the slot (R141). -/
def State.raiseFound (s : State) (i : LinkId) : State :=
  s.raise .linkFound { s.events.details with foundSlot := some i }

/-- LINK_LOST with the slot (R143, R149). -/
def State.raiseLinkLost (s : State) (i : LinkId) : State :=
  s.raise .linkLost { s.events.details with lostSlot := some i }

/-- LINK_LAPSED with the slot (R146). -/
def State.raiseLapsed (s : State) (i : LinkId) : State :=
  s.raise .linkLapsed { s.events.details with lapsedSlot := some i }

/-- LINK_WEAK with the slot (R144). -/
def State.raiseWeak (s : State) (i : LinkId) : State :=
  s.raise .linkWeak { s.events.details with weakSlot := some i }

/-- SHIFT_DONE with the moved count (R170). -/
def State.raiseShiftDone (s : State) (moved : Nat) : State :=
  s.raise .shiftDone { s.events.details with shiftMoved := moved }

/-- SHIFT_ABORTED with the moved count (R171). -/
def State.raiseShiftAborted (s : State) (moved : Nat) : State :=
  s.raise .shiftAborted { s.events.details with abortMoved := moved }

/-- FAILOVER_DONE with the parked count (R167). -/
def State.raiseFailoverDone (s : State) (parked : Nat) : State :=
  s.raise .failoverDone { s.events.details with failoverParked := parked }

/-- GRACE_ENDED with the zone code (R117). -/
def State.raiseGraceEnded (s : State) (zone : Nat) : State :=
  s.raise .graceEnded { s.events.details with graceZone := zone }

/-- COVERAGE_CHANGED with the new mode (R124). -/
def State.raiseCoverage (s : State) (mode : Mode) : State :=
  s.raise .coverageChanged { s.events.details with coverageMode := some mode }

/-- PROFILE_MISSING with the present zone (R115). -/
def State.raiseMissing (s : State) (zone : Nat) : State :=
  s.raise .profileMissing { s.events.details with missingZone := zone }

/-- An event without a detail: HOLD_REVOKED, ATTACH_WAITING, SETTLE_WAITING, BACKHAUL_LOST (R190). -/
def State.raisePlain (s : State) (e : Event) : State := s.raise e s.events.details

/-! ## Condition-cleared events (R191) -/

/-- Whether the clearing condition of a condition-cleared event holds; an acknowledge-cleared event has none. -/
def State.clears (s : State) (e : Event) : Bool :=
  match e with
  | .attachWaiting => s.firstUnhanded = none
  | .settleWaiting => s.store.settlement = []
  | .profileMissing => s.bank.presentZone = s.live.zone
  | .backhaulLost => s.anyCarry
  | .contextRetired | .allowanceSpent | .capReached | .linkFound | .linkLost | .linkLapsed | .linkWeak
  | .shiftDone | .shiftAborted | .failoverDone | .graceEnded | .coverageChanged | .holdRevoked => false

/-- The set of the condition-cleared events whose clearing condition holds. -/
def State.clearedSet (s : State) : BitVec 17 :=
  [Event.attachWaiting, .settleWaiting, .profileMissing, .backhaulLost].foldl
    (fun acc e => if s.clears e then acc ||| e.bit else acc) 0

/-- The condition-cleared flags follow their conditions: a flag whose clearing condition holds is not left pending
(R191). -/
def State.followConditions (s : State) : State :=
  { s with events := { s.events with pendingSet := s.events.pendingSet &&& ~~~s.clearedSet } }

/-! ## The attention line (R194) -/

/-- The line's condition: the quiet timer is stopped and some event is both pending and unmasked. -/
def EventSet.lineCondition (e : EventSet) : Bool := e.quiet.isNone && (e.pendingSet &&& ~~~e.mask) != 0

/-- The line follows its condition. -/
def State.followLine (s : State) : State :=
  { s with events := { s.events with attention := s.events.lineCondition } }

/-- The quiet time in microseconds (R194). -/
def QuietTime.micros : QuietTime → Nat
  | .zero => 0
  | .us50 => 50
  | .ms1 => 1000
  | .ms10 => 10000

end Sys2Proof.Machine
end

