-- ==== Sys2Proof/Machine/Operands.lean ====
section
/-! DEFINITION. Everything carried in octets (section 9.6): the widths and byte order of fields, the codes of named
values, the catalogue of request kinds, the message and answer headers, the bodies of requests read into operands
and written from them, and the fields of answers. -/

namespace Sys2Proof.Machine

/-! ## Fields (R186) -/

/-- A number in `n` octets, most significant first (R186). -/
def octets : Nat → Nat → List Byte
  | 0, _ => []
  | n + 1, v => BitVec.ofNat 8 (v / 256 ^ n) :: octets n v

/-- The number that octets carry, most significant first (R186). -/
def number (bytes : List Byte) : Nat := bytes.foldl (fun acc b => acc * 256 + b.toNat) 0

/-- A body cut into fields of the given widths, or none where its length differs from theirs (R182, R186). -/
def splitFields : List Nat → List Byte → Option (List Nat)
  | [], [] => some []
  | [], _ :: _ => none
  | w :: ws, bytes =>
    if bytes.length < w then none else (splitFields ws (bytes.drop w)).map (number (bytes.take w) :: ·)

/-- The rest of a body cut into entries of one width, or none where it is not a whole number of entries (R182).
`fuel` bounds the entries; the body's length is enough. -/
def splitEntries (w : Nat) : Nat → List Byte → Option (List Nat)
  | _, [] => some []
  | 0, _ :: _ => none
  | fuel + 1, b :: bs =>
    if (b :: bs).length < w then none
    else (splitEntries w fuel ((b :: bs).drop w)).map (number ((b :: bs).take w) :: ·)

/-- A flag (R186). -/
def flagOctet (b : Bool) : Nat := if b then 1 else 0

/-- A flag of a request: any octet but 0 and 1 is refused (R186). -/
def readFlag : Nat → Option Bool
  | 0 => some false
  | 1 => some true
  | _ => none

/-- A field that may hold none: one further octet ahead of the field (R186). -/
def optOctets (n : Nat) : Option Nat → List Byte
  | none => octets 1 0 ++ octets n 0
  | some v => octets 1 1 ++ octets n v

/-- A set of link slots, member n in the bit of value 2^n (R186). -/
def setOctet (f : Four Bool) : Nat :=
  flagOctet f.s0 + 2 * flagOctet f.s1 + 4 * flagOctet f.s2 + 8 * flagOctet f.s3

/-- A set of link slots in one octet; bits 4 to 7 are not read (R186). -/
def readSet (v : Nat) : Four Bool := ⟨v.testBit 0, v.testBit 1, v.testBit 2, v.testBit 3⟩

/-! ## Codes of named values (R186) -/

/-- The status codes (R185). -/
def Status.code : Status → Nat
  | .ok => 0
  | .unchanged => 1
  | .empty => 2
  | .busy => 3
  | .disabled => 4
  | .notPermitted => 5
  | .unknownRequest => 6
  | .notStarted => 7
  | .badField => 8
  | .badProfile => 9
  | .noContext => 10
  | .noEntry => 11
  | .wrongState => 12
  | .full => 13
  | .refusedByMode => 14
  | .barred => 15
  | .noRoute => 16
  | .ineligible => 17
  | .engineBusy => 18
  | .tooLate => 19

/-- A request answered so is taken; with any other status it is refused (R184). -/
def Status.taken : Status → Bool
  | .ok | .unchanged => true
  | .empty | .busy | .disabled | .notPermitted | .unknownRequest | .notStarted | .badField | .badProfile
  | .noContext | .noEntry | .wrongState | .full | .refusedByMode | .barred | .noRoute | .ineligible
  | .engineBusy | .tooLate => false

def CtxState.code : CtxState → Nat
  | .free => 0
  | .probation => 1
  | .idle => 2
  | .carrying => 3
  | .parked => 4
  | .linger => 5

def BearerKind.code : BearerKind → Nat
  | .voice => 0
  | .data => 1

def BearerKind.ofCode : Nat → Option BearerKind
  | 0 => some .voice
  | 1 => some .data
  | _ => none

def Policy.code : Policy → Nat
  | .bar => 0
  | .slow => 1

def Policy.ofCode : Nat → Option Policy
  | 0 => some .bar
  | 1 => some .slow
  | _ => none

def AllowanceKind.code : AllowanceKind → Nat
  | .units => 0
  | .octets => 1
  | .seconds => 2

def AllowanceKind.ofCode : Nat → Option AllowanceKind
  | 0 => some .units
  | 1 => some .octets
  | 2 => some .seconds
  | _ => none

def Mode.code : Mode → Nat
  | .serve => 0
  | .quiet => 1
  | .darkening => 2
  | .dark => 3

/-- A permit or ceiling carries the code of the mode of its name. -/
def Permit.code : Permit → Nat
  | .serve => 0
  | .quiet => 1
  | .dark => 3

/-- A permit or ceiling carried; any value but SERVE, QUIET and DARK is taken as DARK (R104, R121). -/
def Permit.ofCode : Nat → Permit
  | 0 => .serve
  | 1 => .quiet
  | _ => .dark

def Column.code : Column → Nat
  | .shore => 0
  | .sat => 1

def Column.ofCode : Nat → Option Column
  | 0 => some .shore
  | 1 => some .sat
  | _ => none

def LinkKind.code : LinkKind → Nat
  | .unused => 0
  | .shore => 1
  | .sat => 2

def LinkKind.ofCode : Nat → Option LinkKind
  | 0 => some .unused
  | 1 => some .shore
  | 2 => some .sat
  | _ => none

def LinkState.code : LinkState → Nat
  | .off => 0
  | .scan => 1
  | .track => 2
  | .carry => 3

/-- Probe outcomes: OK 0 (true), FAIL 1 (false). -/
def readOutcome : Nat → Option Bool
  | 0 => some true
  | 1 => some false
  | _ => none

def RequesterClass.code : RequesterClass → Nat
  | .master => 0
  | .cell => 1
  | .meter => 2
  | .link => 3
  | .unused => 4

/-- A class that CONFIGURE_REQUESTER may name; MASTER and every other code are refused (R176). -/
def RequesterClass.ofCode : Nat → Option RequesterClass
  | 1 => some .cell
  | 2 => some .meter
  | 3 => some .link
  | 4 => some .unused
  | _ => none

def Role.code : Role → Nat
  | .free => 0
  | .opened => 1
  | .staged => 2
  | .live => 3
  | .grace => 4

def Cause.code : Cause → Nat
  | .probationExpired => 0
  | .idleExpired => 1
  | .parkExpired => 2
  | .detached => 3

/-- The walk kind codes; NONE is 0. -/
def WalkKind.code : WalkKind → Nat
  | .failover => 1
  | .shift => 2
  | .unpark => 3
  | .dark => 4

def RunState.code : RunState → Nat
  | .configuring => 0
  | .running => 1

/-- The hold states by their place in R21's list. -/
def HoldState.code : HoldState → Nat
  | .notHeld => 0
  | .requested => 1
  | .held => 2

/-- The code of a carry base (R133). -/
def CarryBase.code : CarryBase → Nat
  | .ms10 => 0
  | .ms100 => 1

/-- The carry base of a code: any code but 0 gives 100 ms (R133). -/
def CarryBase.ofCode : Nat → CarryBase
  | 0 => .ms10
  | _ => .ms100

/-- The code of a quiet time (R197). -/
def QuietTime.code : QuietTime → Nat
  | .zero => 0
  | .us50 => 1
  | .ms1 => 2
  | .ms10 => 3

/-- The quiet time of a code: 3 or above gives 10 ms (R197). -/
def QuietTime.ofCode : Nat → QuietTime
  | 0 => .zero
  | 1 => .us50
  | 2 => .ms1
  | _ => .ms10

/-! ## The catalogue of request kinds (R183, R188, R19) -/

/-- The kind codes (R188). -/
def Kind.code : Kind → Nat
  | .attach => 1
  | .lookup => 2
  | .lookupHandle => 3
  | .openBearer => 4
  | .closeBearer => 5
  | .detach => 6
  | .retire => 7
  | .admitContext => 8
  | .refuse => 9
  | .nextProbation => 10
  | .nextSettlement => 11
  | .settleContext => 12
  | .addAllowance => 16
  | .removeAllowance => 17
  | .setCap => 18
  | .setPlan => 19
  | .reportUsage => 24
  | .holdStore => 28
  | .releaseStore => 29
  | .openProfile => 32
  | .writeProfileHeader => 33
  | .writeTariffRow => 34
  | .writeCandidates => 35
  | .readProfile => 36
  | .discardProfile => 37
  | .stageProfile => 38
  | .enterZone => 39
  | .setCeiling => 44
  | .configureLink => 48
  | .probeResult => 49
  | .openLink => 50
  | .closeLink => 51
  | .setRoute => 56
  | .clearRoute => 57
  | .readRoute => 58
  | .shift => 59
  | .abortShift => 60
  | .configureRequester => 64
  | .readEvents => 72
  | .setEventMask => 73
  | .ackEvents => 74
  | .setLimits => 80
  | .start => 81
  | .readStatus => 82
  | .clearVoyage => 83

/-- The kind of a code, or none for a code absent from the catalogue (R188). -/
def Kind.ofCode : Nat → Option Kind
  | 1 => some .attach
  | 2 => some .lookup
  | 3 => some .lookupHandle
  | 4 => some .openBearer
  | 5 => some .closeBearer
  | 6 => some .detach
  | 7 => some .retire
  | 8 => some .admitContext
  | 9 => some .refuse
  | 10 => some .nextProbation
  | 11 => some .nextSettlement
  | 12 => some .settleContext
  | 16 => some .addAllowance
  | 17 => some .removeAllowance
  | 18 => some .setCap
  | 19 => some .setPlan
  | 24 => some .reportUsage
  | 28 => some .holdStore
  | 29 => some .releaseStore
  | 32 => some .openProfile
  | 33 => some .writeProfileHeader
  | 34 => some .writeTariffRow
  | 35 => some .writeCandidates
  | 36 => some .readProfile
  | 37 => some .discardProfile
  | 38 => some .stageProfile
  | 39 => some .enterZone
  | 44 => some .setCeiling
  | 48 => some .configureLink
  | 49 => some .probeResult
  | 50 => some .openLink
  | 51 => some .closeLink
  | 56 => some .setRoute
  | 57 => some .clearRoute
  | 58 => some .readRoute
  | 59 => some .shift
  | 60 => some .abortShift
  | 64 => some .configureRequester
  | 72 => some .readEvents
  | 73 => some .setEventMask
  | 74 => some .ackEvents
  | 80 => some .setLimits
  | 81 => some .start
  | 82 => some .readStatus
  | 83 => some .clearVoyage
  | _ => none

/-- Whether a class may send a kind (R183). -/
def RequesterClass.permits : RequesterClass → Kind → Bool
  | .master, _ => true
  | .cell, k => [Kind.attach, .lookup, .lookupHandle, .openBearer, .closeBearer, .detach].contains k
  | .meter, k => [Kind.reportUsage, .lookupHandle].contains k
  | .link, k => [Kind.probeResult].contains k
  | .unused, _ => false

/-- Whether a kind is served in CONFIGURING (R188). -/
def Kind.inConfiguring (k : Kind) : Bool :=
  [Kind.openProfile, .writeProfileHeader, .writeTariffRow, .writeCandidates, .readProfile, .discardProfile,
    .stageProfile, .enterZone, .configureLink, .setRoute, .clearRoute, .readRoute, .configureRequester,
    .setLimits, .start, .readStatus].contains k

/-- Whether a kind touches a context (R19). -/
def Kind.touchesContext (k : Kind) : Bool :=
  [Kind.attach, .lookup, .lookupHandle, .openBearer, .closeBearer, .detach, .retire, .admitContext, .refuse,
    .nextProbation, .nextSettlement, .settleContext, .reportUsage, .addAllowance, .removeAllowance, .setCap,
    .setPlan, .clearVoyage].contains k

/-! ## Headers (R187, R188) -/

/-- A message read from the octets on the link: the requester number, the request, and the octets behind it
(R187). Bits 4 to 7 of the first octet are not read. -/
def readMessage : List Byte → Option (RequesterId × Message × List Byte)
  | o0 :: o1 :: o2 :: o3 :: rest =>
    if rest.length < o3.toNat then none
    else some (⟨o0.toNat % 16, by omega⟩, { kind := o1, tag := o2, body := rest.take o3.toNat }, rest.drop o3.toNat)
  | _ => none

/-- The octets of a message (R187). -/
def writeMessage (r : RequesterId) (m : Message) : List Byte :=
  BitVec.ofNat 8 r.val :: m.kind :: m.tag :: BitVec.ofNat 8 m.body.length :: m.body

/-- The octets of an answer (R188). -/
def Answer.octets (a : Answer) : List Byte :=
  BitVec.ofNat 8 a.requester.val :: a.kind :: a.tag :: BitVec.ofNat 8 a.status.code
    :: BitVec.ofNat 8 a.body.length :: a.body

/-! ## Request operands -/

/-- The target of a route request (R153). -/
inductive RouteTarget where
  | home (code : Nat)
  | default
  deriving DecidableEq, Repr

/-- The operands of a request whose fields are in range, as the rule of its kind names them. A value that its rule
clamps, or judges after another check, is held as it is carried. -/
inductive Request where
  | attach (identity : Identity) (home : Nat) (cell : Fin 32)
  | lookup (identity : Identity)
  | lookupHandle (h : Handle)
  | openBearer (h : Handle) (kind : BearerKind) (emergency : Bool)
  | closeBearer (h : Handle) (kind : BearerKind)
  | detach (identity : Identity)
  | retire (h : Handle) (identity : Identity)
  | admitContext (h : Handle) (identity : Identity) (plan : Fin 8) (cap : Nat) (policy : Policy)
  | refuse (h : Handle) (identity : Identity)
  | nextProbation
  | nextSettlement (skip : Nat)
  | settleContext (h : Handle)
  | addAllowance (h : Handle) (kind : AllowanceKind) (amount : Nat) (tag : Byte)
  | removeAllowance (h : Handle) (tag : Byte)
  | setCap (h : Handle) (cap : Nat) (policy : Policy)
  | setPlan (h : Handle) (plan : Fin 8)
  | reportUsage (h : Handle) (slot : LinkId) (zone up down voice : Nat)
  | holdStore
  | releaseStore
  | openProfile
  | writeProfileHeader (zone : Nat) (permit : Permit) (eligible : Four Bool) (parkLimit graceWindow : Nat)
  | writeTariffRow (plan : Fin 8) (column : Column) (blockSize dataPrice voicePrice increment minimum : Nat)
  | writeCandidates (slot : LinkId) (codes : List Nat)
  | readProfile (slot : ProfileId) (row : Option (Fin 8 × Column))
  | discardProfile (slot : ProfileId)
  | stageProfile
  | enterZone (zone : Nat)
  | setCeiling (ceiling : Permit)
  | configureLink (slot : LinkId) (kind : LinkKind) (satOperator dwell track base f1 f2 threshold count : Nat)
  | probeResult (slot : LinkId) (success : Bool) (quality operator : Nat)
  | openLink (slot : LinkId)
  | closeLink (slot : LinkId)
  | setRoute (target : RouteTarget) (list : List LinkId)
  | clearRoute (target : RouteTarget)
  | readRoute (target : RouteTarget)
  | shift (src dst : LinkId)
  | abortShift
  | configureRequester (r : RequesterId) (cls : RequesterClass) (level : Nat)
  | readEvents
  | setEventMask (mask : BitVec 17)
  | ackEvents (set : BitVec 17) (endService : Bool)
  | setLimits (probation idle linger hold quiet : Nat)
  | start
  | readStatus
  | clearVoyage
  deriving DecidableEq, Repr

/-- The kind of a request. -/
def Request.kind : Request → Kind
  | .attach .. => .attach
  | .lookup .. => .lookup
  | .lookupHandle .. => .lookupHandle
  | .openBearer .. => .openBearer
  | .closeBearer .. => .closeBearer
  | .detach .. => .detach
  | .retire .. => .retire
  | .admitContext .. => .admitContext
  | .refuse .. => .refuse
  | .nextProbation => .nextProbation
  | .nextSettlement .. => .nextSettlement
  | .settleContext .. => .settleContext
  | .addAllowance .. => .addAllowance
  | .removeAllowance .. => .removeAllowance
  | .setCap .. => .setCap
  | .setPlan .. => .setPlan
  | .reportUsage .. => .reportUsage
  | .holdStore => .holdStore
  | .releaseStore => .releaseStore
  | .openProfile => .openProfile
  | .writeProfileHeader .. => .writeProfileHeader
  | .writeTariffRow .. => .writeTariffRow
  | .writeCandidates .. => .writeCandidates
  | .readProfile .. => .readProfile
  | .discardProfile .. => .discardProfile
  | .stageProfile => .stageProfile
  | .enterZone .. => .enterZone
  | .setCeiling .. => .setCeiling
  | .configureLink .. => .configureLink
  | .probeResult .. => .probeResult
  | .openLink .. => .openLink
  | .closeLink .. => .closeLink
  | .setRoute .. => .setRoute
  | .clearRoute .. => .clearRoute
  | .readRoute .. => .readRoute
  | .shift .. => .shift
  | .abortShift => .abortShift
  | .configureRequester .. => .configureRequester
  | .readEvents => .readEvents
  | .setEventMask .. => .setEventMask
  | .ackEvents .. => .ackEvents
  | .setLimits .. => .setLimits
  | .start => .start
  | .readStatus => .readStatus
  | .clearVoyage => .clearVoyage

/-- A value within `0` to `n − 1`, or none (R29, R102). -/
def readBelow (n v : Nat) : Option (Fin n) := if bound : v < n then some ⟨v, bound⟩ else none

/-- An identity, refused where zero (R6, R29). -/
def readIdentity (v : Nat) : Option Identity := if v = 0 then none else some (BitVec.ofNat 64 v)

/-- A number, refused above its maximum (R29). -/
def readUpTo (max v : Nat) : Option Nat := if v ≤ max then some v else none

/-- The greatest balance of a kind of allowance (R56). -/
def AllowanceKind.maximum : AllowanceKind → Nat
  | .units => Config.maxUnits
  | .octets => Config.maxOctets
  | .seconds => Config.maxSeconds

/-- A set of event numbers in three octets; a member above 16 is refused (R186, R192, R193). -/
def readEventSet (v : Nat) : Option (BitVec 17) := if v < 2 ^ 17 then some (BitVec.ofNat 17 v) else none

/-- A route target in four octets: 0 and a home code, or 1 for DEFAULT (R186). The home code's range is a check of
the request's own rule, made at the same place (R153 to R155). -/
def readTarget (v : Nat) : Option RouteTarget :=
  if v / 2 ^ 24 = 0 then (if v ≤ Config.maxCode then some (.home v) else none)
  else if v / 2 ^ 24 = 1 then some .default
  else none

/-- Every entry read as a link slot, or none where one is out of range. -/
def readSlots : List Nat → Option (List LinkId)
  | [] => some []
  | v :: vs => (readBelow 4 v).bind fun i => (readSlots vs).map (i :: ·)

/-- A route's list: 1 to 4 slots, each 0 to 3, none twice (R153). -/
def readRouteList (entries : List Nat) : Option (List LinkId) :=
  (readSlots entries).bind fun list => if 1 ≤ list.length ∧ list.length ≤ 4 ∧ list.Nodup then some list else none

/-- The widths, in octets, of the fields of a kind's body; for a kind whose body ends in a list or an optional part,
of the fields ahead of it (R186). -/
def Kind.widths : Kind → List Nat
  | .attach => [8, 3, 1]
  | .lookup => [8]
  | .lookupHandle => [2]
  | .openBearer => [2, 1, 1]
  | .closeBearer => [2, 1]
  | .detach => [8]
  | .retire => [2, 8]
  | .admitContext => [2, 8, 1, 4, 1]
  | .refuse => [2, 8]
  | .nextProbation => []
  | .nextSettlement => [2]
  | .settleContext => [2]
  | .addAllowance => [2, 1, 5, 1]
  | .removeAllowance => [2, 1]
  | .setCap => [2, 4, 1]
  | .setPlan => [2, 1]
  | .reportUsage => [2, 1, 2, 3, 3, 2]
  | .holdStore => []
  | .releaseStore => []
  | .openProfile => []
  | .writeProfileHeader => [2, 1, 1, 2, 2]
  | .writeTariffRow => [1, 1, 4, 2, 2, 1, 2]
  | .writeCandidates => [1]
  | .readProfile => [1]
  | .discardProfile => [1]
  | .stageProfile => []
  | .enterZone => [2]
  | .setCeiling => [1]
  | .configureLink => [1, 1, 3, 1, 1, 1, 1, 1, 1, 1]
  | .probeResult => [1, 1, 1, 3]
  | .openLink => [1]
  | .closeLink => [1]
  | .setRoute => [4]
  | .clearRoute => [4]
  | .readRoute => [4]
  | .shift => [1, 1]
  | .abortShift => []
  | .configureRequester => [1, 1, 1]
  | .readEvents => []
  | .setEventMask => [3]
  | .ackEvents => [3, 1]
  | .setLimits => [2, 4, 2, 2, 1]
  | .start => []
  | .readStatus => []
  | .clearVoyage => []

/-- The operands of a kind from the fields of a body of fixed layout, or none where a field is out of range: the
request is then refused with BAD_FIELD. -/
def Kind.readFixed : Kind → List Nat → Option Request
  | .attach, [i, home, cell] => do
    return .attach (← readIdentity i) (← readUpTo Config.maxCode home) (← readBelow 32 cell)
  | .lookup, [i] => do return .lookup (← readIdentity i)
  | .lookupHandle, [h] => do return .lookupHandle (← readBelow 2048 h)
  | .openBearer, [h, k, e] => do
    return .openBearer (← readBelow 2048 h) (← BearerKind.ofCode k) (← readFlag e)
  | .closeBearer, [h, k] => do return .closeBearer (← readBelow 2048 h) (← BearerKind.ofCode k)
  | .detach, [i] => do return .detach (← readIdentity i)
  | .retire, [h, i] => do return .retire (← readBelow 2048 h) (← readIdentity i)
  | .admitContext, [h, i, plan, cap, policy] => do
    return .admitContext (← readBelow 2048 h) (← readIdentity i) (← readBelow 8 plan) cap (← Policy.ofCode policy)
  | .refuse, [h, i] => do return .refuse (← readBelow 2048 h) (← readIdentity i)
  | .nextProbation, [] => some .nextProbation
  | .nextSettlement, [skip] => do return .nextSettlement (← readUpTo 2047 skip)
  | .settleContext, [h] => do return .settleContext (← readBelow 2048 h)
  | .addAllowance, [h, k, amount, tag] => do
    let kind ← AllowanceKind.ofCode k
    if amount = 0 then none
    return .addAllowance (← readBelow 2048 h) kind (← readUpTo kind.maximum amount) (BitVec.ofNat 8 tag)
  | .removeAllowance, [h, tag] => do return .removeAllowance (← readBelow 2048 h) (BitVec.ofNat 8 tag)
  | .setCap, [h, cap, policy] => do return .setCap (← readBelow 2048 h) cap (← Policy.ofCode policy)
  | .setPlan, [h, plan] => do return .setPlan (← readBelow 2048 h) (← readBelow 8 plan)
  | .reportUsage, [h, slot, zone, up, down, voice] => do
    return .reportUsage (← readBelow 2048 h) (← readBelow 4 slot) zone up down voice
  | .holdStore, [] => some .holdStore
  | .releaseStore, [] => some .releaseStore
  | .openProfile, [] => some .openProfile
  | .writeProfileHeader, [zone, permit, eligible, park, grace] =>
    some (.writeProfileHeader zone (Permit.ofCode permit) (readSet eligible) park grace)
  | .writeTariffRow, [plan, column, b, pd, pv, i, m] => do
    return .writeTariffRow (← readBelow 8 plan) (← Column.ofCode column) b pd pv i m
  | .discardProfile, [slot] => do return .discardProfile (← readBelow 4 slot)
  | .stageProfile, [] => some .stageProfile
  | .enterZone, [zone] => if zone = 0 then none else some (.enterZone zone)
  | .setCeiling, [c] => some (.setCeiling (Permit.ofCode c))
  | .configureLink, [slot, kind, op, dwell, track, base, f1, f2, threshold, count] => do
    return .configureLink (← readBelow 4 slot) (← LinkKind.ofCode kind) op dwell track base f1 f2 threshold count
  | .probeResult, [slot, outcome, quality, operator] => do
    let success ← readOutcome outcome
    if success = true ∧ 63 < quality then none
    return .probeResult (← readBelow 4 slot) success quality (← readUpTo Config.maxCode operator)
  | .openLink, [slot] => do return .openLink (← readBelow 4 slot)
  | .closeLink, [slot] => do return .closeLink (← readBelow 4 slot)
  | .clearRoute, [target] => do return .clearRoute (← readTarget target)
  | .readRoute, [target] => do return .readRoute (← readTarget target)
  | .shift, [src, dst] => do
    let f ← readBelow 4 src
    let t ← readBelow 4 dst
    if f = t then none
    return .shift f t
  | .abortShift, [] => some .abortShift
  | .configureRequester, [slot, cls, level] => do
    if slot = 0 then none
    return .configureRequester (← readBelow 16 slot) (← RequesterClass.ofCode cls) level
  | .readEvents, [] => some .readEvents
  | .setEventMask, [mask] => do return .setEventMask (← readEventSet mask)
  | .ackEvents, [set, e] => do return .ackEvents (← readEventSet set) (← readFlag e)
  | .setLimits, [probation, idle, linger, hold, quiet] => some (.setLimits probation idle linger hold quiet)
  | .start, [] => some .start
  | .readStatus, [] => some .readStatus
  | .clearVoyage, [] => some .clearVoyage
  | _, _ => none

/-- The operands of a request of a kind from its body; none is refused with BAD_FIELD (R29, R102, R182). The body
length is checked with the fields. -/
def Kind.read (k : Kind) (body : List Byte) : Option Request :=
  match k with
  | .writeCandidates => do
    if body = [] then none
    let codes ← splitEntries 3 body.length (body.drop 1)
    return .writeCandidates (← readBelow 4 (number (body.take 1))) codes
  | .setRoute => do
    if body.length < 4 then none
    let entries ← splitEntries 1 body.length (body.drop 4)
    return .setRoute (← readTarget (number (body.take 4))) (← readRouteList entries)
  | .readProfile =>
    match splitFields [1] body, splitFields [1, 1, 1] body with
    | some [slot], _ => do return .readProfile (← readBelow 4 slot) none
    | _, some [slot, plan, column] => do
      return .readProfile (← readBelow 4 slot) (some (← readBelow 8 plan, ← Column.ofCode column))
    | _, _ => none
  | k => (splitFields k.widths body).bind k.readFixed

/-- Fields laid out one after the other, each in its width (R186). -/
def layFields : List (Nat × Nat) → List Byte
  | [] => []
  | (w, v) :: rest => octets w v ++ layFields rest

/-- The four octets of a route target (R186). -/
def RouteTarget.octets : RouteTarget → List Byte
  | .home code => Machine.octets 1 0 ++ Machine.octets 3 code
  | .default => Machine.octets 1 1 ++ Machine.octets 3 0

/-- The body of a request, laid out by R186. -/
def Request.body : Request → List Byte
  | .attach i home cell => layFields [(8, i.toNat), (3, home), (1, cell.val)]
  | .lookup i => octets 8 i.toNat
  | .lookupHandle h => octets 2 h.val
  | .openBearer h k e => layFields [(2, h.val), (1, k.code), (1, flagOctet e)]
  | .closeBearer h k => layFields [(2, h.val), (1, k.code)]
  | .detach i => octets 8 i.toNat
  | .retire h i => layFields [(2, h.val), (8, i.toNat)]
  | .admitContext h i plan cap policy =>
    layFields [(2, h.val), (8, i.toNat), (1, plan.val), (4, cap), (1, policy.code)]
  | .refuse h i => layFields [(2, h.val), (8, i.toNat)]
  | .nextProbation => []
  | .nextSettlement skip => octets 2 skip
  | .settleContext h => octets 2 h.val
  | .addAllowance h k amount tag => layFields [(2, h.val), (1, k.code), (5, amount), (1, tag.toNat)]
  | .removeAllowance h tag => layFields [(2, h.val), (1, tag.toNat)]
  | .setCap h cap policy => layFields [(2, h.val), (4, cap), (1, policy.code)]
  | .setPlan h plan => layFields [(2, h.val), (1, plan.val)]
  | .reportUsage h slot zone up down voice =>
    layFields [(2, h.val), (1, slot.val), (2, zone), (3, up), (3, down), (2, voice)]
  | .holdStore => []
  | .releaseStore => []
  | .openProfile => []
  | .writeProfileHeader zone permit eligible park grace =>
    layFields [(2, zone), (1, permit.code), (1, setOctet eligible), (2, park), (2, grace)]
  | .writeTariffRow plan column b pd pv i m =>
    layFields [(1, plan.val), (1, column.code), (4, b), (2, pd), (2, pv), (1, i), (2, m)]
  | .writeCandidates slot codes => octets 1 slot.val ++ codes.flatMap (octets 3)
  | .readProfile slot none => octets 1 slot.val
  | .readProfile slot (some (plan, column)) => layFields [(1, slot.val), (1, plan.val), (1, column.code)]
  | .discardProfile slot => octets 1 slot.val
  | .stageProfile => []
  | .enterZone zone => octets 2 zone
  | .setCeiling c => octets 1 c.code
  | .configureLink slot kind op dwell track base f1 f2 threshold count =>
    layFields [(1, slot.val), (1, kind.code), (3, op), (1, dwell), (1, track), (1, base), (1, f1), (1, f2),
      (1, threshold), (1, count)]
  | .probeResult slot success quality operator =>
    layFields [(1, slot.val), (1, flagOctet (!success)), (1, quality), (3, operator)]
  | .openLink slot => octets 1 slot.val
  | .closeLink slot => octets 1 slot.val
  | .setRoute target list => target.octets ++ list.flatMap (fun i => octets 1 i.val)
  | .clearRoute target => target.octets
  | .readRoute target => target.octets
  | .shift src dst => layFields [(1, src.val), (1, dst.val)]
  | .abortShift => []
  | .configureRequester r cls level => layFields [(1, r.val), (1, cls.code), (1, level)]
  | .readEvents => []
  | .setEventMask mask => octets 3 mask.toNat
  | .ackEvents set e => layFields [(3, set.toNat), (1, flagOctet e)]
  | .setLimits probation idle linger hold quiet =>
    layFields [(2, probation), (4, idle), (2, linger), (2, hold), (1, quiet)]
  | .start => []
  | .readStatus => []
  | .clearVoyage => []

/-- The operands are values that the request's body can carry and that its field checks pass. -/
def Request.wf : Request → Bool
  | .attach i home _ => i ≠ 0 && home ≤ Config.maxCode
  | .lookup i => i ≠ 0
  | .lookupHandle _ => true
  | .openBearer .. => true
  | .closeBearer .. => true
  | .detach i => i ≠ 0
  | .retire _ i => i ≠ 0
  | .admitContext _ i _ cap _ => i ≠ 0 && cap ≤ Config.maxCap
  | .refuse _ i => i ≠ 0
  | .nextProbation => true
  | .nextSettlement skip => skip ≤ 2047
  | .settleContext _ => true
  | .addAllowance _ k amount _ => 1 ≤ amount && amount ≤ k.maximum
  | .removeAllowance .. => true
  | .setCap _ cap _ => cap ≤ Config.maxCap
  | .setPlan .. => true
  | .reportUsage _ _ zone up down voice => zone < 2 ^ 16 && up < 2 ^ 24 && down < 2 ^ 24 && voice < 2 ^ 16
  | .holdStore => true
  | .releaseStore => true
  | .openProfile => true
  | .writeProfileHeader zone _ _ park grace => zone < 2 ^ 16 && park < 2 ^ 16 && grace < 2 ^ 16
  | .writeTariffRow _ _ b pd pv i m => b < 2 ^ 32 && pd < 2 ^ 16 && pv < 2 ^ 16 && i < 2 ^ 8 && m < 2 ^ 16
  | .writeCandidates _ codes => codes.all (· < 2 ^ 24)
  | .readProfile .. => true
  | .discardProfile _ => true
  | .stageProfile => true
  | .enterZone zone => 1 ≤ zone && zone < 2 ^ 16
  | .setCeiling _ => true
  | .configureLink _ _ op dwell track base f1 f2 threshold count =>
    op < 2 ^ 24 && dwell < 2 ^ 8 && track < 2 ^ 8 && base < 2 ^ 8 && f1 < 2 ^ 8 && f2 < 2 ^ 8
      && threshold < 2 ^ 8 && count < 2 ^ 8
  | .probeResult _ success quality operator =>
    (if success then decide (quality ≤ 63) else decide (quality < 2 ^ 8)) && operator ≤ Config.maxCode
  | .openLink _ => true
  | .closeLink _ => true
  | .setRoute target list =>
    (match target with | .home code => decide (code ≤ Config.maxCode) | .default => true)
      && 1 ≤ list.length && list.length ≤ 4 && decide list.Nodup
  | .clearRoute target => match target with | .home code => code ≤ Config.maxCode | .default => true
  | .readRoute target => match target with | .home code => code ≤ Config.maxCode | .default => true
  | .shift src dst => src ≠ dst
  | .abortShift => true
  | .configureRequester r cls level => r ≠ 0 && cls ≠ .master && level < 2 ^ 8
  | .readEvents => true
  | .setEventMask _ => true
  | .ackEvents .. => true
  | .setLimits probation idle linger hold quiet =>
    probation < 2 ^ 16 && idle < 2 ^ 32 && linger < 2 ^ 16 && hold < 2 ^ 16 && quiet < 2 ^ 8
  | .start => true
  | .readStatus => true
  | .clearVoyage => true

/-! ## Answer fields -/

/-- A handle. -/
def handleOctets (h : Handle) : List Byte := octets 2 h.val

/-- A flag in its octet. -/
def flagField (b : Bool) : List Byte := octets 1 (flagOctet b)

/-- A link or profile slot, or none. -/
def optSlot (i : Option (Fin 4)) : List Byte := optOctets 1 (i.map (·.val))

/-- An identity; a record without one sends zero. -/
def identityOctets (i : Option Identity) : List Byte := octets 8 ((i.map (·.toNat)).getD 0)

/-- A list in an answer: one octet with the number of its entries ahead of them (R186). -/
def listOctets {α : Type} (f : α → List Byte) (xs : List α) : List Byte := octets 1 xs.length ++ xs.flatMap f

/-- An allowance in an answer: kind, balance in five octets, tag (R53, R186). -/
def Allowance.octets (a : Allowance) : List Byte :=
  Machine.octets 1 a.kind.code ++ Machine.octets 5 a.balance ++ Machine.octets 1 a.tag.toNat

end Sys2Proof.Machine
end

