-- ==== Sys2Proof/Machine/Ops.lean ====
section
/-! DEFINITION. The shared operations that the commands are made of: writing a context with all that follows its
state, deadlines and bearers, route selection, the orders and walks of the Migration Engine, coverage, the link
slots, the profile roles, the Store Arbiter, the Request Engine, and the end of every event. -/

namespace Sys2Proof.Machine

/-! ## Deadlines (R8, R9) -/

/-- The clock plus a limit, saturating at 2^32−1 (R8). -/
def State.deadlineIn (s : State) (limit : Nat) : Nat := min (s.clock + limit) Config.maxClock

/-- The idle deadline set now (R9). -/
def State.idleDeadline (s : State) : Nat := s.deadlineIn s.limits.idle

/-- The linger deadline set now (R9). -/
def State.lingerDeadline (s : State) : Nat := s.deadlineIn s.limits.linger

/-- The probation deadline set now (R9). -/
def State.probationDeadline (s : State) : Nat := s.deadlineIn s.limits.probation

/-- The park deadline set now, by the park limit of the LIVE profile (R9). -/
def State.parkDeadline (s : State) : Nat := s.deadlineIn s.live.parkLimit

/-- A stored deadline is reached when the clock is equal to it or greater (R8). -/
def State.reached (s : State) (deadline : Option Nat) : Bool :=
  match deadline with
  | none => false
  | some d => d ≤ s.clock

/-! ## Writing a context

Every change of a context is one write of its record. The Identity Index, the two lifecycle queues, the free handle
count, the route counts and the parked total follow the record within the write (R4, R5, R32, R157, R158). -/

/-- The states whose context is indexed (R5). -/
def CtxState.indexed : CtxState → Bool
  | .probation | .idle | .carrying | .parked => true
  | .free | .linger => false

/-- A count of the things for which something holds, when it held before for one thing (`was`) and now does (`now`). -/
def moveCount (was now : Bool) (n : Nat) : Nat :=
  if was then (if now then n else n - 1) else (if now then n + 1 else n)

/-- A lifecycle queue when a handle was in it and is to be in it: it joins at the tail and leaves from whatever
position it holds (R32). -/
def followQueue (was now : Bool) (h : Handle) (queue : List Handle) : List Handle :=
  if was then (if now then queue else queue.filter (· ≠ h)) else (if now then queue ++ [h] else queue)

/-- The Identity Index when a handle's context goes from one record to another (R5). -/
def followIndex (old new : Context) (h : Handle) (index : List (Identity × Handle)) : List (Identity × Handle) :=
  if old.state.indexed then (if new.state.indexed then index else index.filter (fun e => e.2 ≠ h))
  else if new.state.indexed then
    (match new.identity with
      | some i => index ++ [(i, h)]
      | none => index)
  else index

/-- The route counts when a context's route goes from one value to another: unbinding decreases, binding
increases (R157). -/
def rebind (old new : Option LinkId) (counts : Four Nat) : Four Nat :=
  if old = new then counts
  else
    let unbound := match old with
      | some i => counts.set i (counts.get i - 1)
      | none => counts
    match new with
      | some i => unbound.set i (unbound.get i + 1)
      | none => unbound

/-- The store with a context written and all that follows it. -/
def Store.write (t : Store) (h : Handle) (new : Context) : Store :=
  let old := lookupContext t.contexts h
  { contexts := replaceContext h new t.contexts
    index := followIndex old new h t.index
    probation := followQueue (old.state = .probation) (new.state = .probation) h t.probation
    settlement := followQueue (old.state = .linger) (new.state = .linger) h t.settlement
    freeCount := moveCount (old.state = .free) (new.state = .free) t.freeCount
    routeCounts := rebind old.route new.route t.routeCounts }

/-- The state with a context written: the store and the parked total. -/
def State.writeContext (s : State) (h : Handle) (new : Context) : State :=
  { s with
    store := s.store.write h new
    migration := { s.migration with
      parkedTotal := moveCount ((s.ctx h).state = .parked) (new.state = .parked) s.migration.parkedTotal } }

/-- A context written, with the occurrences of ATTACH_WAITING and SETTLE_WAITING where the handle joins a lifecycle
queue (R35, R52). -/
def State.commit (s : State) (h : Handle) (new : Context) : State :=
  let old := s.ctx h
  let t := s.writeContext h new
  let t := if old.state ≠ .probation ∧ new.state = .probation then t.raisePlain .attachWaiting else t
  if old.state ≠ .linger ∧ new.state = .linger then t.raisePlain .settleWaiting else t

/-! ## Bearers and retirement -/

/-- Some bearer is open. -/
def Context.anyBearer (c : Context) : Bool := c.voiceOpen || c.dataOpen

/-- The three bearer flags cleared, or all but an open emergency voice bearer kept (R47, R68); a CARRYING context
left with no bearer becomes IDLE with the idle deadline. -/
def Context.closeBearers (c : Context) (keepEmergency : Bool) (idleDeadline : Nat) : Context :=
  let kept := keepEmergency && c.voiceOpen && c.voiceEmergency
  let closed := { c with voiceOpen := kept, voiceEmergency := kept, dataOpen := false }
  if c.state = .carrying ∧ kept = false then { closed with state := .idle, deadline := some idleDeadline } else closed

/-- A context that enters LINGER: bearers closed, route unbound, linger open, linger deadline (R14, R15, R48). -/
def Context.toLinger (c : Context) (deadline : Nat) : Context :=
  { c with
    state := .linger, voiceOpen := false, voiceEmergency := false, dataOpen := false, route := none
    lingerOpen := true, deadline := some deadline }

/-- DETACH and RETIRE: a PROBATION context returns to FREE, any other enters LINGER (R48). -/
def State.retireContext (s : State) (h : Handle) : State :=
  if (s.ctx h).state = .probation then s.commit h Context.free
  else s.commit h ((s.ctx h).toLinger s.lingerDeadline)

/-- Activity on an IDLE context renews its deadline; on any other it changes none (R42). -/
def Context.renew (c : Context) (idleDeadline : Nat) : Context :=
  if c.state = .idle then { c with deadline := some idleDeadline } else c

/-! ## Route selection (R156) -/

/-- The four conditions of route selection. -/
def State.qualifies (s : State) (i : LinkId) : Bool :=
  (s.link i).state = .carry && s.eligible i && !s.isLost i && s.migration.draining ≠ some i

/-- The first slot of the list that applies to a home that meets all four conditions, or none. -/
def State.selectRoute (s : State) (home : Nat) : Option LinkId := (s.routes.applies home).find? s.qualifies

/-! ## Walks and orders (R161 to R164) -/

/-- The pending orders with one kind put in or taken out. -/
def Orders.set (o : Orders) (k : WalkKind) (b : Bool) : Orders :=
  match k with
  | .failover => { o with failover := b }
  | .dark => { o with dark := b }
  | .shift => { o with shift := b }
  | .unpark => { o with unpark := b }

/-- A walk that starts: cursor 0 and end mark 0; a FAILOVER walk also sets its parked count to 0 (R162). -/
def Migration.begin (m : Migration) (k : WalkKind) : Migration :=
  { m with walk := some ⟨k, 0, 0⟩, parkedCount := if k = .failover then 0 else m.parkedCount }

/-- The first kind with a pending order in the order FAILOVER, DARK, SHIFT, UNPARK (R164). -/
def Orders.first (o : Orders) : Option WalkKind :=
  if o.failover then some .failover
  else if o.dark then some .dark
  else if o.shift then some .shift
  else if o.unpark then some .unpark
  else none

/-- The next walk is chosen: the suspended walk, else the first pending order unless the hold is granted, else
none (R164). -/
def Migration.next (m : Migration) (held : Bool) : Migration :=
  match m.suspended with
  | some w => { m with walk := some w, suspended := none }
  | none =>
    if held then { m with walk := none }
    else match m.orders.first with
      | some k => { m with orders := m.orders.set k false }.begin k
      | none => { m with walk := none }

/-- The master hold is granted. -/
def State.isHeld (s : State) : Bool := s.hold.state = .held

/-- The next walk is chosen (R164). -/
def State.nextWalk (s : State) : State := { s with migration := s.migration.next s.isHeld }

/-- An order placed with the Migration Engine (R162, R166). -/
def Migration.order (m : Migration) (held : Bool) (k : WalkKind) : Migration :=
  match m.walk with
  | none => if held then { m with orders := m.orders.set k true } else m.begin k
  | some w =>
    if k = .failover then
      if w.kind = .failover then { m with walk := some { w with endMark := w.cursor } }
      else { m with suspended := some w }.begin .failover
    else { m with orders := m.orders.set k true }

/-- An order placed with the Migration Engine (R162). -/
def State.order (s : State) (k : WalkKind) : State := { s with migration := s.migration.order s.isHeld k }

/-- A walk of a kind is in progress, suspended or pending. -/
def Migration.present (m : Migration) (k : WalkKind) : Bool :=
  (match m.walk with | some w => decide (w.kind = k) | none => false)
    || (match m.suspended with | some w => decide (w.kind = k) | none => false)
    || (match k with
        | .failover => m.orders.failover
        | .dark => m.orders.dark
        | .shift => m.orders.shift
        | .unpark => m.orders.unpark)

/-- A walk of a kind ended or withdrawn wherever it stands, in progress, suspended or pending; where it was in
progress the next walk is chosen (R123, R164, R171). -/
def Migration.withdraw (m : Migration) (held : Bool) (k : WalkKind) : Migration :=
  let cleared := { m with
    orders := m.orders.set k false
    suspended := m.suspended.filter (fun w => w.kind ≠ k) }
  match m.walk with
  | some w => if w.kind = k then { cleared with walk := none }.next held else cleared
  | none => cleared

/-- The present SHIFT is aborted, with SHIFT_ABORTED, the draining slot and the record cleared (R171, R172). -/
def State.dropShift (s : State) : State :=
  match s.migration.shift with
  | none => s
  | some r =>
    let m := { s.migration with shift := none, draining := none }
    { s with migration := m.withdraw s.isHeld .shift }.raiseShiftAborted r.moved

/-- Whether a slot is the from-slot or the to-slot of the present SHIFT. -/
def Migration.shiftTouches (m : Migration) (i : LinkId) : Bool :=
  match m.shift with
  | some r => r.src = i || r.dst = i
  | none => false

/-- A slot joins the lost set: a FAILOVER order is placed, or the end mark reset, and a SHIFT that the slot belongs
to is aborted (R159, R166, R171). -/
def State.joinLost (s : State) (i : LinkId) : State :=
  let touched := s.migration.shiftTouches i
  let t := { s with migration := { s.migration with lost := s.migration.lost.set i true } }.order .failover
  if touched then t.dropShift else t

/-! ## Link slots (chapter 7) -/

/-- The scan dwell in microseconds (R132, R138). -/
def LinkSlot.dwellMicros (l : LinkSlot) : Nat := l.scanDwell * 100 * Config.microsPerMs

/-- The track time in microseconds (R132). -/
def LinkSlot.trackMicros (l : LinkSlot) : Nat := l.trackTime * Config.microsPerSecond

/-- The carry monitor time in milliseconds: the base times f1 times f2, a product of 1 taken as 2 (R134). -/
def LinkSlot.carryMs (l : LinkSlot) : Nat :=
  (match l.carryBase with | .ms10 => 10 | .ms100 => 100) * (if l.f1 * l.f2 = 1 then 2 else l.f1 * l.f2)

/-- The carry monitor time in microseconds. -/
def LinkSlot.carryMicros (l : LinkSlot) : Nat := l.carryMs * Config.microsPerMs

/-- The scan cursor set to the top of a list; the dwell starts where the list is not empty and the part is
RUNNING, and is stopped otherwise (R138, R150). -/
def LinkSlot.toTop (l : LinkSlot) (list : List Nat) (run : RunState) : LinkSlot :=
  { l with cursor := 0, dwell := if list ≠ [] ∧ run = .running then some l.dwellMicros else none }

/-- The scan cursor moved one place, wrapping at the end of the list; the dwell restarts (R138). -/
def LinkSlot.advance (l : LinkSlot) (list : List Nat) : LinkSlot :=
  { l with cursor := if l.cursor + 1 < list.length then l.cursor + 1 else 0, dwell := some l.dwellMicros }

/-- The link state of a slot in OFF (R132, R135). -/
def LinkSlot.toOff (l : LinkSlot) : LinkSlot :=
  { l with
    state := .off, cursor := 0, tracked := none, quality := none, demoteCounter := 0, dwell := none
    trackMonitor := none, carryMonitor := none }

/-- A slot that enters SCAN from the top of a list: monitors stopped, tracked operator and last quality none,
counter 0 (R135, R143). -/
def LinkSlot.toScan (l : LinkSlot) (list : List Nat) (run : RunState) : LinkSlot :=
  { l with
    state := .scan, tracked := none, quality := none, demoteCounter := 0, trackMonitor := none
    carryMonitor := none }.toTop list run

/-- A slot that enters TRACK from CARRY (R146, R148). -/
def LinkSlot.toTrack (l : LinkSlot) : LinkSlot :=
  { l with state := .track, carryMonitor := none, demoteCounter := 0, trackMonitor := some l.trackMicros }

/-- A slot is demoted from CARRY: it enters TRACK and joins the lost set (R146). -/
def State.demote (s : State) (i : LinkId) : State := (s.setLink i (s.link i).toTrack).joinLost i

/-- The new LIVE profile acts on one link slot, by its state and kind (R149). -/
def State.zoneChange (s : State) (i : LinkId) : State :=
  let l := s.link i
  match l.state with
  | .off => s
  | .scan => if l.kind = .shore then s.setLink i (l.toTop (s.candidates i) s.runState) else s
  | .track =>
    if l.kind = .shore then
      match l.tracked with
      | some op =>
        if (s.candidates i).contains op then s.setLink i { l with cursor := (s.candidates i).idxOf op }
        else (s.setLink i (l.toScan (s.candidates i) s.runState)).raiseLinkLost i
      | none => (s.setLink i (l.toScan (s.candidates i) s.runState)).raiseLinkLost i
    else s
  | .carry => if s.eligible i then s else (s.demote i).raiseLapsed i

/-! ## Coverage (chapter 6) -/

/-- The quieter of the LIVE permit and the ceiling (R120). -/
def quieter : Permit → Permit → Permit
  | .dark, _ => .dark
  | _, .dark => .dark
  | .quiet, _ => .quiet
  | _, .quiet => .quiet
  | .serve, .serve => .serve

/-- The target, formed anew at each recomputation (R120). -/
def State.target (s : State) : Permit := quieter s.live.permit s.coverage.ceiling

/-- What a recomputation did with the DARK walk (R121). -/
inductive DarkReport where
  | none | ordered | continuing | cancelled
  deriving DecidableEq, Repr

/-- The mode changes, and COVERAGE_CHANGED is raised with it (R124). -/
def State.setMode (s : State) (mode : Mode) : State :=
  { s with coverage := { s.coverage with mode := mode } }.raiseCoverage mode

/-- The DARK walk is cancelled: ended at its cursor, not resumed, or withdrawn (R123). -/
def State.cancelDark (s : State) : State := { s with migration := s.migration.withdraw s.isHeld .dark }

/-- Coverage Control recomputes the mode (R122). -/
def State.recompute (s : State) : State × DarkReport :=
  match s.coverage.mode, s.target with
  | .serve, .serve => (s, .none)
  | .serve, .quiet => (s.setMode .quiet, .none)
  | .serve, .dark => ((s.setMode .darkening).order .dark, .ordered)
  | .quiet, .serve => (s.setMode .serve, .none)
  | .quiet, .quiet => (s, .none)
  | .quiet, .dark => ((s.setMode .darkening).order .dark, .ordered)
  | .darkening, .serve => (s.cancelDark.setMode .serve, .cancelled)
  | .darkening, .quiet => (s.cancelDark.setMode .quiet, .cancelled)
  | .darkening, .dark => (s, .continuing)
  | .dark, .serve => (s.setMode .serve, .none)
  | .dark, .quiet => (s.setMode .quiet, .none)
  | .dark, .dark => (s, .none)

/-! ## Profile roles (chapter 5) -/

/-- A slot given a role, its fields kept. -/
def State.setRole (s : State) (i : ProfileId) (role : Role) : State :=
  s.setSlot i { s.bank.slots.get i with role := role }

/-- A slot becomes FREE with cleared fields (R98). -/
def State.freeSlot (s : State) (i : ProfileId) : State := s.setSlot i (ProfileSlot.cleared .free)

/-- The grace deadline set to a value. -/
def State.setGrace (s : State) (deadline : Option Nat) : State :=
  { s with bank := { s.bank with graceDeadline := deadline } }

/-- The GRACE slot expires: FREE with cleared fields, no deadline, GRACE_ENDED with its zone code (R117). -/
def State.expireGrace (s : State) : State :=
  match s.slotIn .grace with
  | some i => ((s.freeSlot i).setGrace none).raiseGraceEnded (s.bank.slots.get i).zone
  | none => s

/-- The new LIVE profile is handed to Coverage Control and the Link Supervisor (R116). Coverage Control takes it first,
and then the four slots in ascending order, 0 to 3, so that where several raise LINK_LOST or LINK_LAPSED the detail of
the highest stands: R116, R149 and R162 leave both orders open (DESIGN CHOICE, notes/assumptions/18.md). -/
def State.handOver (s : State) : State := slotIds.foldl State.zoneChange s.recompute.1

/-- The roles when a slot becomes LIVE: the slot that was LIVE becomes GRACE with a deadline by the new LIVE
profile's window, another slot that was GRACE becomes FREE, and a deadline already reached is taken at once (R111,
R113, R114). -/
def State.exchangeRoles (s : State) (i : ProfileId) : State :=
  let s1 := match s.slotIn .grace with
    | some g => if g = i then s else s.freeSlot g
    | none => s
  let s2 := (s1.setRole s.liveSlot .grace).setRole i .live
  let deadline := s2.deadlineIn (s.bank.slots.get i).graceWindow
  let s3 := s2.setGrace (some deadline)
  if deadline ≤ s3.clock then s3.expireGrace else s3

/-- A slot becomes LIVE, with the hand-over (R111, R113, R114, R116). -/
def State.promote (s : State) (i : ProfileId) : State := (s.exchangeRoles i).handOver

/-! ## The Store Arbiter (R18, R26) -/

/-- Whether a contender contends now: it waits for a grant or holds one (R18). The Request Engine's request contends
while it awaits its grant, and while it is served under that grant (R20, R179). -/
def State.contends (s : State) : Contender → Bool
  | .hold => s.hold.state = .requested
  | .sweep => s.sweep.pass = .passing
  | .walk k => match s.migration.walk with | some w => w.kind = k | none => false
  | .request =>
    match s.port.engine with
    | .awaitingGrant _ => true
    | .serving _ => s.arbiter = .granted .request
    | .idle => false

/-- The rank of a contender, 1 the highest (R18). -/
def State.rank (s : State) : Contender → Nat
  | .hold => 1
  | .sweep => if s.sweep.urgent then 2 else 6
  | .walk .failover => 3
  | .request => 4
  | .walk .shift => 5
  | .walk .unpark => 5
  | .walk .dark => 5

/-- Every contender there can be. -/
def allContenders : List Contender :=
  [.hold, .sweep, .walk .failover, .request, .walk .shift, .walk .unpark, .walk .dark]

/-- The contender of the highest rank among those that contend, or none. -/
def State.foremost (s : State) : Option Contender :=
  (allContenders.filter s.contends).foldl
    (fun best c => match best with
      | none => some c
      | some b => if s.rank c < s.rank b then some c else best) none

/-- The arbiter makes its next grant, or becomes IDLE where none waits; while the hold is granted it is HELD. -/
def State.award (s : State) : State :=
  if s.isHeld then { s with arbiter := .held }
  else match s.foremost with
    | some c => { s with arbiter := .granted c }
    | none => { s with arbiter := .idle }

/-- The arbiter at the end of an event: a grant in progress stands while its contender contends, since a grant is
not pre-empted; otherwise the next grant is made (R18). That a grant stands between steps, and that a contender which no
longer contends loses it, is the model's reading (DEDUCED, notes/assumptions/8.md). -/
def State.regrant (s : State) : State :=
  match s.arbiter with
  | .granted c => if s.contends c then s else s.award
  | .held => if s.isHeld then s else s.award
  | .idle => s.award

/-- The engine with a new state. -/
def State.setEngine (s : State) (e : EngineState) : State := { s with port := { s.port with engine := e } }

/-- At the grant of the store to the request it holds, the engine that awaited it enters SERVING (R179). -/
def State.enterService (s : State) : State :=
  match s.port.engine with
  | .awaitingGrant r => if s.arbiter = .granted .request then s.setEngine (.serving r) else s
  | .serving _ => s
  | .idle => s

/-- The arbiter at the end of an event, and the engine where the grant is its own (R18, R179). -/
def State.arbitrate (s : State) : State := s.regrant.enterService

/-- A contender that arrives within a service while no hold is in force is granted at once where the arbiter is
IDLE (R18). -/
def State.grantAtOnce (s : State) : State :=
  match s.arbiter with
  | .held => s
  | .idle => s.arbitrate
  | .granted _ => s.arbitrate

/-! ## The Request Engine (R179 to R182) -/

/-- The refusal of a request by checks 1 to 3 of R182, or none where it passes. -/
def State.portRefusal (s : State) (r : RequesterId) (m : Message) : Option Status :=
  match Kind.ofCode m.kind.toNat with
  | none => some .unknownRequest
  | some k =>
    if !(s.entry r).cls.permits k then some .notPermitted
    else if s.runState = .configuring ∧ k.inConfiguring = false then some .notStarted
    else none

/-- Whether a request touches a context and passes checks 1 to 3 of R182. -/
def State.forStore (s : State) (r : RequesterId) (m : Message) : Bool :=
  (s.portRefusal r m).isNone
    && (match Kind.ofCode m.kind.toNat with | some k => k.touchesContext | none => false)

/-- Whether a requester's queue head is eligible: there is one, and the hold does not hold it back (R180). -/
def State.headEligible (s : State) (r : RequesterId) : Bool :=
  match (s.entry r).queue.head? with
  | none => false
  | some m => !(s.isHeld && r ≠ 0 && s.forStore r m)

/-- The head the ingress arbiter chooses: the highest service level, then the lowest number (R180). -/
def State.chooseHead (s : State) : Option RequesterId :=
  (requesterIds.filter s.headEligible).foldl
    (fun best r => match best with
      | none => some r
      | some b => if (s.entry b).level < (s.entry r).level then some r else best) none

/-- An IDLE engine takes the head chosen, where one is eligible: a request that touches a context awaits a grant, or
is served under the hold; any other, and any that the checks of R182 refuse, is served at once (R179). -/
def State.takeHead (s : State) : State :=
  match s.port.engine with
  | .awaitingGrant _ => s
  | .serving _ => s
  | .idle =>
    match s.chooseHead with
    | none => s
    | some r =>
      match (s.entry r).queue.head? with
      | none => s
      | some m => s.setEngine (if s.forStore r m && !s.isHeld then .awaitingGrant r else .serving r)

/-- An answer sent on the link (R188). -/
def State.send (s : State) (a : Answer) : State := { s with port := { s.port with sent := s.port.sent ++ [a] } }

/-- The status and the body of an answer. -/
structure Reply where
  status : Status
  body : List Byte
  deriving DecidableEq, Repr

/-- A refusal that carries no fields (R184). -/
def Reply.refusal (status : Status) : Reply := ⟨status, []⟩

/-- An answer OK with its fields. -/
def Reply.ok (body : List Byte) : Reply := ⟨.ok, body⟩

/-- The request leaves its queue, the engine is IDLE and a grant made to the request ends (R20, R177). -/
def State.releaseEngine (s : State) (r : RequesterId) : State :=
  let e := s.entry r
  let t := (s.setEntry r { e with queue := e.queue.tail }).setEngine .idle
  if s.arbiter = .granted .request then { t with arbiter := .idle } else t

/-! ## The master hold (R21 to R26) -/

/-- The hold ends: NOT_HELD, its timer stopped; the Migration Engine chooses its next walk where none is in
progress (R24, R25, R26). -/
def State.endHold (s : State) : State :=
  let t := { s with hold := { state := .notHeld, timer := none, expiryDue := false } }
  match t.migration.walk with
  | none => t.nextWalk
  | some _ => t

/-- The hold is revoked, with HOLD_REVOKED (R25). -/
def State.revokeHold (s : State) : State := s.endHold.raisePlain .holdRevoked

/-- A hold timer expiry that waited for a request in service is taken when the request has been answered (R25). -/
def State.takeDueExpiry (s : State) : State :=
  if s.hold.expiryDue ∧ s.hold.state = .held then s.revokeHold else s

/-! ## The end of an event -/

/-- What follows every event: the engine chooses, the arbiter grants, the condition-cleared flags and the attention
line follow (R18, R179, R191, R194). -/
def State.conclude (s : State) : State := s.takeHead.arbitrate.followConditions.followLine

/-- The end of a service: contenders that the service brought arrive, the answer is sent, the request leaves its
queue, an expiry that waited for it is taken, and the event concludes (R20, R25, R177, R179). -/
def State.finish (s : State) (r : RequesterId) (m : Message) (reply : Reply) : State :=
  let s1 := s.grantAtOnce.send { requester := r, kind := m.kind, tag := m.tag, status := reply.status, body := reply.body }
  (s1.releaseEngine r).takeDueExpiry.conclude

/-- The request in service, whose work may be done now: the one the engine is SERVING (R179). A HOLD_STORE that already
waits for its grant has been served (R21). -/
def State.inService (s : State) : Option (RequesterId × Message) :=
  match s.port.engine with
  | .idle => none
  | .awaitingGrant _ => none
  | .serving r => if s.hold.state = .requested then none else ((s.entry r).queue.head?).map (r, ·)

/-- The outcome of every command: the part goes on. -/
abbrev Outcome := Host.Outcome State Fault Refusal

/-- The service of a request of kind `k`: the checks of R182, the body read into operands, the kind's own rule, and
the end of the service. The command of a kind that is not in service leaves the part as it stands: the part does not
take that step now (notes/assumptions/2.md). -/
def State.serve (s : State) (k : Kind) (rule : Option Request → List Byte → State → State × Reply) : State :=
  match s.inService with
  | none => s
  | some (r, m) =>
    if Kind.ofCode m.kind.toNat = some k then
      match s.portRefusal r m with
      | some status => s.finish r m (Reply.refusal status)
      | none => let done := rule (k.read m.body) m.body s; done.1.finish r m done.2
    else s

/-- A granted walk step: the step's own work at the cursor, the cursor's advance, and at the end mark the walk's
completion (R163). A step that is not granted is not taken. -/
def State.walkStep (s : State) (k : WalkKind) (work : Handle → State → State) (complete : State → State) : State :=
  match s.migration.walk with
  | none => s
  | some w =>
    if w.kind = k ∧ s.arbiter = .granted (.walk k) then
      let t := work w.cursor s
      let cursor := w.cursor + 1
      let t := if cursor = w.endMark then complete t
        else { t with migration := { t.migration with walk := some { w with cursor := cursor } } }
      { t with arbiter := .idle }.conclude
    else s

end Sys2Proof.Machine
end

