-- ==== Sys2Proof/Machine/Allowances.lean ====
section
/-! DEFINITION. Allowances and caps (chapter 3): drawing on the allowance list, the four requests on a context's
terms, and what the two policies do when the cap is met. -/

namespace Sys2Proof.Machine

/-! ## Drawing (R58) -/

/-- What a draw leaves: the list, the unabsorbed rest, and the tags removed in the order they left. -/
structure Drawn where
  allowances : List Allowance
  rest : Nat
  tags : List Byte
  deriving DecidableEq, Repr

/-- An amount of one kind drawn from the list, from the head toward the tail: each entry of the kind absorbs the
smaller of its balance and what is still to be drawn, and leaves the list where its balance reaches 0. A draw of 0
visits no entry (R58). -/
def draw (kind : AllowanceKind) : Nat → List Allowance → Drawn
  | amount, [] => ⟨[], amount, []⟩
  | amount, a :: rest =>
    if a.kind = kind ∧ 0 < amount then
      let absorbed := min a.balance amount
      let behind := draw kind (amount - absorbed) rest
      if a.balance - absorbed = 0 then { behind with tags := a.tag :: behind.tags }
      else { behind with allowances := { a with balance := a.balance - absorbed } :: behind.allowances }
    else
      let behind := draw kind amount rest
      { behind with allowances := a :: behind.allowances }

/-! ## The policies (R68, R69) -/

/-- The context when the cap is met: BAR sets barred and closes every bearer but an emergency voice bearer, SLOW
sets slow (R68, R69). -/
def Context.meetCap (c : Context) (idleDeadline : Nat) : Context :=
  match c.policy with
  | .bar => { c with barred := true }.closeBearers true idleDeadline
  | .slow => { c with slow := true }

/-! ## The requests (R59 to R66) -/

/-- The context and state checks of the four requests; none where they pass (R59). -/
def Context.termsRefusal (c : Context) : Option Status :=
  match c.state with
  | .free => some .noContext
  | .probation => some .wrongState
  | .idle | .carrying | .parked => none
  | .linger => if c.lingerOpen then none else some .wrongState

/-- The first entry with a tag. -/
def findTag (tag : Byte) (list : List Allowance) : Option Allowance := list.find? (fun a => a.tag = tag)

/-- The list with the entry of a tag topped up to a balance, at its position (R57, R61). -/
def topUp (tag : Byte) (balance : Nat) (list : List Allowance) : List Allowance :=
  list.map (fun a => if a.tag = tag then { a with balance := balance } else a)

/-- The flags cleared where a UNITS allowance is added (R62). -/
def Context.addedFlags (c : Context) (kind : AllowanceKind) : Context :=
  match kind with
  | .units => { c with barred := false, slow := false }
  | .octets => c
  | .seconds => c

/-- The answer to ADD_ALLOWANCE (R61). -/
def addAllowanceFields (h : Handle) (tag : Byte) (kind : AllowanceKind) (balance added : Nat) (c : Context) : List Byte :=
  handleOctets h ++ octets 1 tag.toNat ++ octets 1 kind.code ++ octets 5 balance ++ octets 5 added
    ++ octets 1 (c.allowances.findIdx (fun a => a.tag = tag)) ++ octets 1 c.allowances.length
    ++ flagField c.barred ++ flagField c.slow

/-- ADD_ALLOWANCE: a top-up of the entry of its tag, or a new entry at the tail (R60, R61, R62). -/
def addAllowanceRule (q : Option Request) (_ : List Byte) (s : State) : State × Reply :=
  match q with
  | some (.addAllowance h kind amount tag) =>
    let c := s.ctx h
    match c.termsRefusal with
    | some status => (s, .refusal status)
    | none =>
      match findTag tag c.allowances with
      | some a =>
        if a.kind ≠ kind then (s, .refusal .badField)
        else
          let balance := min (a.balance + amount) kind.maximum
          let c' := { c with allowances := topUp tag balance c.allowances }.addedFlags kind
          (s.commit h c', .ok (addAllowanceFields h tag kind balance (balance - a.balance) c'))
      | none =>
        if Config.allowanceCount ≤ c.allowances.length then (s, .refusal .full)
        else
          let entry : Allowance := ⟨kind, amount, tag⟩
          let c' := { c with allowances := c.allowances ++ [entry] }.addedFlags kind
          (s.commit h c', .ok (addAllowanceFields h tag kind amount amount c'))
  | _ => (s, .refusal .badField)

def execAddAllowance (s : State) : Outcome := .next (s.serve .addAllowance addAllowanceRule)

/-- REMOVE_ALLOWANCE: the entry of a tag is withdrawn, with no event (R63). -/
def removeAllowanceRule (q : Option Request) (_ : List Byte) (s : State) : State × Reply :=
  match q with
  | some (.removeAllowance h tag) =>
    let c := s.ctx h
    match c.termsRefusal with
    | some status => (s, .refusal status)
    | none =>
      match findTag tag c.allowances with
      | none => (s, .refusal .noEntry)
      | some a =>
        let list := c.allowances.filter (fun x => x.tag ≠ tag)
        (s.commit h { c with allowances := list },
          .ok (handleOctets h ++ octets 1 tag.toNat ++ octets 1 a.kind.code ++ octets 5 a.balance
            ++ octets 1 list.length))
  | _ => (s, .refusal .badField)

def execRemoveAllowance (s : State) : Outcome := .next (s.serve .removeAllowance removeAllowanceRule)

/-- The context with a cap and policy set: the cap applied is at least the overrun, and both flags clear where it
leaves headroom (R65). -/
def Context.setCap (c : Context) (cap : Nat) (policy : Policy) : Context :=
  let applied := max cap c.overrun
  if c.overrun < applied then { c with cap := applied, policy := policy, barred := false, slow := false }
  else { c with cap := applied, policy := policy }

/-- SET_CAP (R65). -/
def setCapRule (q : Option Request) (_ : List Byte) (s : State) : State × Reply :=
  match q with
  | some (.setCap h cap policy) =>
    let c := s.ctx h
    match c.termsRefusal with
    | some status => (s, .refusal status)
    | none =>
      let c' := c.setCap cap policy
      (s.commit h c',
        .ok (handleOctets h ++ octets 4 c'.cap ++ octets 1 c'.policy.code ++ octets 4 c'.overrun
          ++ flagField c'.barred ++ flagField c'.slow))
  | _ => (s, .refusal .badField)

def execSetCap (s : State) : Outcome := .next (s.serve .setCap setCapRule)

/-- SET_PLAN (R66). -/
def setPlanRule (q : Option Request) (_ : List Byte) (s : State) : State × Reply :=
  match q with
  | some (.setPlan h plan) =>
    let c := s.ctx h
    match c.termsRefusal with
    | some status => (s, .refusal status)
    | none => (s.commit h { c with plan := plan }, .ok (handleOctets h ++ octets 1 plan.val))
  | _ => (s, .refusal .badField)

def execSetPlan (s : State) : Outcome := .next (s.serve .setPlan setPlanRule)

end Sys2Proof.Machine
end

