-- ==== Sys2Proof/Machine/Arbitration.lean ====
section
/-! DEFINITION. The master hold, the Voyage Clock's period boundary and the Expiry Sweep (sections 1.3 to 1.6). -/

namespace Sys2Proof.Machine

/-! ## The master hold -/

/-- HOLD_STORE's rule: refused while the hold is HELD; otherwise the hold is REQUESTED and contends at rank 1. The
request is answered at the grant, so a taken HOLD_STORE stays in service (R21). -/
def execHoldStore (s : State) : Outcome :=
  .next (match s.inService with
    | none => s
    | some (r, m) =>
      if Kind.ofCode m.kind.toNat = some .holdStore then
        match s.portRefusal r m with
        | some status => s.finish r m (.refusal status)
        | none =>
          if Kind.read .holdStore m.body = none then s.finish r m (.refusal .badField)
          else if s.hold.state = .held then s.finish r m (.refusal .wrongState)
          else { s with hold := { s.hold with state := .requested } }.conclude
      else s)

/-- The answer to the HOLD_STORE that waits, and the end of its service (R21). -/
def State.answerHold (s : State) : State :=
  match s.port.engine with
  | .serving r =>
    match (s.entry r).queue.head? with
    | some m => s.finish r m (.ok (octets 2 s.limits.hold))
    | none => s.conclude
  | .idle => s.conclude
  | .awaitingGrant _ => s.conclude

/-- HOLD_GRANT: the arbiter is HELD, the hold timer starts at the hold limit, and HOLD_STORE is answered (R21). -/
def execHoldGrant (s : State) : Outcome :=
  .next (if s.arbiter = .granted .hold ∧ s.hold.state = .requested then
    { s with
      arbiter := .held
      hold := { state := .held, timer := some (s.limits.hold * Config.microsPerMs), expiryDue := false } }.answerHold
  else s)

/-- RELEASE_STORE ends the hold (R24). -/
def releaseStoreRule (q : Option Request) (_ : List Byte) (s : State) : State × Reply :=
  match q with
  | some .releaseStore =>
    if s.hold.state = .held then (s.endHold, .ok []) else (s, .refusal .wrongState)
  | _ => (s, .refusal .badField)

def execReleaseStore (s : State) : Outcome := .next (s.serve .releaseStore releaseStoreRule)

/-- HOLD_TIMER_EXPIRY: the hold is revoked, between services; an expiry during a service waits for its answer
(R25). It is taken whatever time is left on the running timer (DESIGN CHOICE, notes/assumptions/2.md). -/
def execHoldTimerExpiry (s : State) : Outcome :=
  .next (if s.hold.state = .held ∧ s.hold.timer.isSome then
    match s.port.engine with
    | .serving _ => { s with hold := { s.hold with timer := some 0, expiryDue := true } }
    | .idle => s.revokeHold.conclude
    | .awaitingGrant _ => s.revokeHold.conclude
  else s)

/-! ## The Voyage Clock and the Expiry Sweep -/

/-- A period boundary at the sweep: a waiting sweep begins a pass, an incomplete pass sets urgent (R11). -/
def Sweep.boundary (w : Sweep) : Sweep :=
  match w.pass with
  | .waiting => { w with pass := .passing, cursor := 0 }
  | .passing => { w with urgent := true }

/-- PERIOD_BOUNDARY: the clock increases by one while the part is RUNNING and the top of its range is not reached
(R7, R11). -/
def execPeriodBoundary (s : State) : Outcome :=
  .next (if s.runState = .running ∧ s.clock < Config.maxClock then
    { s with clock := s.clock + 1, sweep := s.sweep.boundary }.conclude
  else s)

/-- The expiry a visit takes at a handle, by the context's state (R12 to R16). -/
def State.visit (s : State) (h : Handle) : State :=
  let c := s.ctx h
  if s.reached c.deadline = false then s
  else match c.state with
    | .free => s
    | .carrying => s
    | .probation => (s.commit h Context.free).raiseRetired h .probationExpired
    | .idle => (s.commit h (c.toLinger s.lingerDeadline)).raiseRetired h .idleExpired
    | .parked => (s.commit h (c.toLinger s.lingerDeadline)).raiseRetired h .parkExpired
    | .linger => if c.lingerOpen then s.commit h { c with lingerOpen := false, deadline := none } else s

/-- The sweep after a visit: the cursor advances; the visit of handle 2047 completes the pass (R12). -/
def Sweep.advance (w : Sweep) : Sweep :=
  if w.cursor = 2047 then
    if w.urgent then { pass := .passing, cursor := 0, urgent := false }
    else { w with pass := .waiting, cursor := 0 }
  else { w with cursor := w.cursor + 1 }

/-- SWEEP_VISIT: one granted visit of the handle at the cursor (R12). The command stands for the grant's whole work, so
the clock that the visit compares with is the clock at the command, also where a PERIOD_BOUNDARY came between the
arbiter's award and the command (DEDUCED, notes/assumptions/16.md). -/
def execSweepVisit (s : State) : Outcome :=
  .next (if s.arbiter = .granted .sweep ∧ s.sweep.pass = .passing then
    let t := s.visit s.sweep.cursor
    { t with sweep := s.sweep.advance, arbiter := .idle }.conclude
  else s)

end Sys2Proof.Machine
end

