-- ==== Sys2Proof/Machine/CoverageControl.lean ====
section
/-! DEFINITION. SET_CEILING and the steps of the DARK walk (chapter 6). -/

namespace Sys2Proof.Machine

/-- The DARK walk codes of an answer to SET_CEILING (R186). -/
def DarkReport.code : DarkReport → Nat
  | .none => 0
  | .ordered => 1
  | .continuing => 2
  | .cancelled => 3

/-- The fields of an answer to SET_CEILING (R121). -/
def State.ceilingFields (s : State) (report : DarkReport) : List Byte :=
  octets 1 s.coverage.ceiling.code ++ octets 1 s.live.permit.code ++ octets 1 s.target.code
    ++ octets 1 s.coverage.mode.code ++ octets 1 report.code

/-- What an unchanged ceiling reports of the DARK walk (R121). -/
def State.darkStanding (s : State) : DarkReport :=
  if s.target = .dark ∧ s.migration.present .dark = true then .continuing else .none

/-- SET_CEILING: the ceiling, and the recomputation where it changes (R121). -/
def setCeilingRule (q : Option Request) (_ : List Byte) (s : State) : State × Reply :=
  match q with
  | some (.setCeiling ceiling) =>
    if ceiling = s.coverage.ceiling then (s, ⟨.unchanged, s.ceilingFields s.darkStanding⟩)
    else
      let done := { s with coverage := { s.coverage with ceiling := ceiling } }.recompute
      (done.1, .ok (done.1.ceilingFields done.2))
  | _ => (s, .refusal .badField)

def execSetCeiling (s : State) : Outcome := .next (s.serve .setCeiling setCeilingRule)

/-- The DARK step at a handle: every open bearer of a CARRYING or PARKED context closes (R128). -/
def State.darkWork (s : State) (h : Handle) : State :=
  match (s.ctx h).state with
  | .carrying => s.commit h ((s.ctx h).closeBearers false s.idleDeadline)
  | .parked => s.commit h ((s.ctx h).closeBearers false s.idleDeadline)
  | .free => s
  | .probation => s
  | .idle => s
  | .linger => s

/-- The completion of the DARK walk: the mode becomes DARK, and the next walk is chosen (R129). -/
def State.darkComplete (s : State) : State := (s.setMode .dark).nextWalk

/-- DARK_STEP (R128, R163). -/
def execDarkStep (s : State) : Outcome :=
  .next (s.walkStep .dark (fun h t => t.darkWork h) State.darkComplete)

end Sys2Proof.Machine
end

