-- ==== Sys2Proof/Machine/EventSet.lean ====
section
/-! DEFINITION. The three requests of the Event Set and the quiet timer's expiry (chapter 10). -/

namespace Sys2Proof.Machine

/-- A set of events, carried in three octets (R186). -/
def eventSetOctets (set : BitVec 17) : List Byte := octets 3 set.toNat

/-- The detail of an event; none for an event that has no detail (R190). -/
def Details.octets (d : Details) : Event → List Byte
  | .contextRetired => handleOctets d.retiredHandle ++ optOctets 1 (d.retiredCause.map Cause.code)
  | .allowanceSpent => handleOctets d.spentHandle ++ Machine.octets 1 d.spentTag.toNat
  | .capReached => handleOctets d.capHandle
  | .linkFound => optSlot d.foundSlot
  | .linkLost => optSlot d.lostSlot
  | .linkLapsed => optSlot d.lapsedSlot
  | .linkWeak => optSlot d.weakSlot
  | .shiftDone => Machine.octets 2 d.shiftMoved
  | .shiftAborted => Machine.octets 2 d.abortMoved
  | .failoverDone => Machine.octets 2 d.failoverParked
  | .graceEnded => Machine.octets 2 d.graceZone
  | .coverageChanged => optOctets 1 (d.coverageMode.map Mode.code)
  | .holdRevoked => []
  | .attachWaiting => []
  | .settleWaiting => []
  | .profileMissing => Machine.octets 2 d.missingZone
  | .backhaulLost => []

/-- The events in order of their numbers. -/
def allEvents : List Event :=
  [.contextRetired, .allowanceSpent, .capReached, .linkFound, .linkLost, .linkLapsed, .linkWeak, .shiftDone,
    .shiftAborted, .failoverDone, .graceEnded, .coverageChanged, .holdRevoked, .attachWaiting, .settleWaiting,
    .profileMissing, .backhaulLost]

/-- READ_EVENTS (R192). The line it reports is the one its condition gives: the line is inactive for the end of an
ACK_EVENTS alone, and follows its condition from the next event, which may be this request (R194). -/
def readEventsRule (q : Option Request) (_ : List Byte) (s : State) : State × Reply :=
  match q with
  | some .readEvents =>
    (s, .ok (eventSetOctets s.events.pendingSet ++ eventSetOctets s.events.mask
      ++ allEvents.flatMap s.events.details.octets ++ optOctets 2 s.events.quiet ++ flagField s.events.lineCondition))
  | _ => (s, .refusal .badField)

def execReadEvents (s : State) : Outcome := .next (s.serve .readEvents readEventsRule)

/-- SET_EVENT_MASK: the mask is replaced whole, and the line follows (R192). -/
def setEventMaskRule (q : Option Request) (_ : List Byte) (s : State) : State × Reply :=
  match q with
  | some (.setEventMask mask) =>
    let t := { s with events := { s.events with mask := mask } }
    (t, .ok (eventSetOctets mask ++ flagField t.events.lineCondition))
  | _ => (s, .refusal .badField)

def execSetEventMask (s : State) : Outcome := .next (s.serve .setEventMask setEventMaskRule)

/-- The events that an acknowledge clears: those of its set that are pending and acknowledge-cleared (R193). -/
def EventSet.acknowledged (e : EventSet) (set : BitVec 17) : BitVec 17 := set &&& e.pendingSet &&& ~~~conditionCleared

/-- The quiet timer at an end of service: started at the quiet time, or not at all at a quiet time of 0 (R194). -/
def quietStart (running : Timer) (time : QuietTime) : Timer :=
  if time.micros = 0 then running else some time.micros

/-- The Event Set after an acknowledge; with `endService` the quiet timer starts (R193). -/
def EventSet.acknowledge (e : EventSet) (set : BitVec 17) (endService : Bool) (time : QuietTime) : EventSet :=
  { e with
    pendingSet := e.pendingSet &&& ~~~(e.acknowledged set)
    quiet := if endService then quietStart e.quiet time else e.quiet }

/-- The fields of an answer to ACK_EVENTS (R193). The details are those of the events cleared, in ascending event number
and with no count octet (DEDUCED, notes/assumptions/9.md). -/
def ackFields (before after : EventSet) (set : BitVec 17) (line : Bool) : List Byte :=
  eventSetOctets (before.acknowledged set)
    ++ (allEvents.filter (fun e => (before.acknowledged set).getLsbD e.num)).flatMap before.details.octets
    ++ eventSetOctets after.pendingSet ++ flagField line

/-- ACK_EVENTS (R193). -/
def ackEventsRule (q : Option Request) (_ : List Byte) (s : State) : State × Reply :=
  match q with
  | some (.ackEvents set endService) =>
    let e := s.events.acknowledge set endService s.limits.quiet
    ({ s with events := e }, .ok (ackFields s.events e set (!endService && e.lineCondition)))
  | _ => (s, .refusal .badField)

/-- Whether the request in service is an ACK_EVENTS, taken, whose end flag is set: it ends an attention service. -/
def State.endsService (s : State) : Bool :=
  match s.inService with
  | none => false
  | some (r, m) =>
    Kind.ofCode m.kind.toNat = some .ackEvents && (s.portRefusal r m).isNone
      && (match Kind.read .ackEvents m.body with | some (.ackEvents _ e) => e | _ => false)

/-- Whether a hold timer expiry waits for the request in service: it is an event of its own, taken behind the answer
(R25). -/
def State.expiryWaits (s : State) : Bool := s.hold.expiryDue && s.hold.state = .held

/-- The line driven inactive for the end of a request (R194). -/
def State.lineInactive (s : State) : State := { s with events := { s.events with attention := false } }

/-- ACK_EVENTS: where end is set the line is inactive at the end of the request, at a quiet time of 0 too (R193,
R194). It follows its condition from the next event, and a hold timer expiry taken behind the answer is one
(notes/assumptions/11.md). -/
def execAckEvents (s : State) : Outcome :=
  .next (let t := s.serve .ackEvents ackEventsRule
    if s.endsService && !s.expiryWaits then t.lineInactive else t)

/-- QUIET_TIMER_EXPIRY: the timer stops, and the line follows its condition (R194). It is taken whatever time is left on
the running timer (DESIGN CHOICE, notes/assumptions/2.md). -/
def execQuietTimerExpiry (s : State) : Outcome :=
  .next (if s.events.quiet.isSome then { s with events := { s.events with quiet := none } }.conclude else s)

end Sys2Proof.Machine
end

