-- ==== Sys2Proof/Machine/Lifecycle.lean ====
section
/-! DEFINITION. The lifecycle requests of chapter 2: attachment, admission, lookups, bearers, retirement, the two
queues and settlement. -/

namespace Sys2Proof.Machine

/-- The gate for a new identity: SERVE alone admits it (R125). -/
def Mode.admitsNew : Mode → Bool
  | .serve => true
  | .quiet | .darkening | .dark => false

/-- The gate for a bearer: SERVE admits every bearer, QUIET an emergency voice bearer alone (R125). -/
def Mode.admitsBearer : Mode → BearerKind → Bool → Bool
  | .serve, _, _ => true
  | .quiet, .voice, emergency => emergency
  | .quiet, .data, _ => false
  | .darkening, _, _ => false
  | .dark, _, _ => false

/-- The refusal of the coverage gate; its answer reports the mode (R125, R184). -/
def State.gateRefusal (s : State) : Reply := ⟨.refusedByMode, octets 1 s.coverage.mode.code⟩

/-- The fields of an answer to a bearer request: handle, state and the three bearer flags (R45, R46). -/
def bearerFields (h : Handle) (c : Context) : List Byte :=
  handleOctets h ++ octets 1 c.state.code ++ flagField c.voiceOpen ++ flagField c.voiceEmergency ++ flagField c.dataOpen

/-- The fields of an answer to a lookup (R41). -/
def lookupFields (h : Handle) (c : Context) (mode : Mode) : List Byte :=
  handleOctets h ++ octets 1 c.state.code ++ optSlot c.route ++ octets 1 c.cell.val ++ flagField c.barred
    ++ flagField c.slow ++ flagField c.voiceOpen ++ flagField c.voiceEmergency ++ flagField c.dataOpen
    ++ flagField c.lingerOpen ++ octets 1 mode.code

/-- The context of a new attachment: PROBATION, with the request's values and the probation deadline (R31). -/
def newContext (identity : Identity) (home : Nat) (cell : Fin 32) (deadline : Nat) : Context :=
  { Context.free with
    state := .probation, identity := some identity, home := home, cell := cell, deadline := some deadline }

/-- ATTACH: a cell update of an indexed identity, or a new PROBATION context at the lowest FREE handle (R30, R31). -/
def attachRule (q : Option Request) (_ : List Byte) (s : State) : State × Reply :=
  match q with
  | some (.attach i home cell) =>
    match s.indexed i with
    | some h =>
      let c := { s.ctx h with cell := cell }.renew s.idleDeadline
      (s.commit h c, .ok (handleOctets h ++ octets 1 c.state.code ++ flagField true))
    | none =>
      if s.coverage.mode.admitsNew = false then (s, s.gateRefusal)
      else match s.lowestFree with
        | none => (s, .refusal .full)
        | some h =>
          (s.commit h (newContext i home cell s.probationDeadline),
            .ok (handleOctets h ++ octets 1 CtxState.probation.code ++ flagField false))
  | _ => (s, .refusal .badField)

def execAttach (s : State) : Outcome := .next (s.serve .attach attachRule)

/-- LOOKUP by identity (R40). -/
def lookupRule (q : Option Request) (_ : List Byte) (s : State) : State × Reply :=
  match q with
  | some (.lookup i) =>
    match s.indexed i with
    | some h => (s, .ok (lookupFields h (s.ctx h) s.coverage.mode))
    | none => (s, .refusal .noContext)
  | _ => (s, .refusal .badField)

def execLookup (s : State) : Outcome := .next (s.serve .lookup lookupRule)

/-- LOOKUP_HANDLE: any state but FREE (R41). -/
def lookupHandleRule (q : Option Request) (_ : List Byte) (s : State) : State × Reply :=
  match q with
  | some (.lookupHandle h) =>
    if (s.ctx h).state = .free then (s, .refusal .noContext)
    else (s, .ok (lookupFields h (s.ctx h) s.coverage.mode))
  | _ => (s, .refusal .badField)

def execLookupHandle (s : State) : Outcome := .next (s.serve .lookupHandle lookupHandleRule)

/-- Whether a bearer of a kind is open. -/
def Context.bearerOpen (c : Context) : BearerKind → Bool
  | .voice => c.voiceOpen
  | .data => c.dataOpen

/-- The context with a bearer opened: an IDLE context becomes CARRYING with no deadline; a VOICE bearer creates or
resets the voice record (R45). -/
def Context.openBearer (c : Context) (kind : BearerKind) (emergency : Bool) : Context :=
  let opened := match kind with
    | .voice => { c with voiceOpen := true, voiceEmergency := emergency, voice := some ⟨0, 0, 0, emergency⟩ }
    | .data => { c with dataOpen := true }
  if c.state = .idle then { opened with state := .carrying, deadline := none } else opened

/-- OPEN_BEARER's checks after the field check, in order; none where all pass (R29, R44). -/
def State.openBearerRefusal (s : State) (c : Context) (kind : BearerKind) (emergency : Bool) : Option Reply :=
  match c.state with
  | .free => some (.refusal .noContext)
  | .probation => some (.refusal .wrongState)
  | .linger => some (.refusal .wrongState)
  | .parked => some (.refusal .noRoute)
  | .idle | .carrying =>
    if s.coverage.mode.admitsBearer kind emergency = false then some s.gateRefusal
    else if c.barred ∧ ¬ (kind = .voice ∧ emergency = true) then some (.refusal .barred)
    else if c.bearerOpen kind then some (.refusal .wrongState)
    else if kind = .data ∧ emergency = true then some (.refusal .badField)
    else none

/-- OPEN_BEARER (R44, R45). -/
def openBearerRule (q : Option Request) (_ : List Byte) (s : State) : State × Reply :=
  match q with
  | some (.openBearer h kind emergency) =>
    match s.openBearerRefusal (s.ctx h) kind emergency with
    | some refusal => (s, refusal)
    | none =>
      let c := (s.ctx h).openBearer kind emergency
      (s.commit h c, .ok (bearerFields h c))
  | _ => (s, .refusal .badField)

def execOpenBearer (s : State) : Outcome := .next (s.serve .openBearer openBearerRule)

/-- The context with one bearer closed: a CARRYING context left with no bearer becomes IDLE with the idle deadline
(R46). -/
def Context.closeBearer (c : Context) (kind : BearerKind) (idleDeadline : Nat) : Context :=
  let closed := match kind with
    | .voice => { c with voiceOpen := false, voiceEmergency := false }
    | .data => { c with dataOpen := false }
  if c.state = .carrying ∧ closed.anyBearer = false then { closed with state := .idle, deadline := some idleDeadline }
  else closed

/-- CLOSE_BEARER (R46). -/
def closeBearerRule (q : Option Request) (_ : List Byte) (s : State) : State × Reply :=
  match q with
  | some (.closeBearer h kind) =>
    let c := s.ctx h
    if c.state = .free then (s, .refusal .noContext)
    else if c.state = .probation ∨ c.state = .linger then (s, .refusal .wrongState)
    else if c.bearerOpen kind = false then (s, .refusal .wrongState)
    else
      let c' := c.closeBearer kind s.idleDeadline
      (s.commit h c', .ok (bearerFields h c'))
  | _ => (s, .refusal .badField)

def execCloseBearer (s : State) : Outcome := .next (s.serve .closeBearer closeBearerRule)

/-- DETACH: the indexed context retires, and CONTEXT_RETIRED is raised (R49). -/
def detachRule (q : Option Request) (_ : List Byte) (s : State) : State × Reply :=
  match q with
  | some (.detach i) =>
    match s.indexed i with
    | none => (s, .refusal .noContext)
    | some h =>
      let t := (s.retireContext h).raiseRetired h .detached
      (t, .ok (handleOctets h ++ octets 1 (t.ctx h).state.code))
  | _ => (s, .refusal .badField)

def execDetach (s : State) : Outcome := .next (s.serve .detach detachRule)

/-- The context check of a request that names a handle and an identity (R29). -/
def State.namesContext (s : State) (h : Handle) (i : Identity) : Bool :=
  (s.ctx h).state ≠ .free && (s.ctx h).identity = some i

/-- RETIRE: the context retires, with no event (R50). -/
def retireRule (q : Option Request) (_ : List Byte) (s : State) : State × Reply :=
  match q with
  | some (.retire h i) =>
    if s.namesContext h i = false then (s, .refusal .noContext)
    else if (s.ctx h).state = .linger then (s, .refusal .wrongState)
    else
      let t := s.retireContext h
      (t, .ok (handleOctets h ++ octets 1 (t.ctx h).state.code))
  | _ => (s, .refusal .badField)

def execRetire (s : State) : Outcome := .next (s.serve .retire retireRule)

/-- An admitted context: IDLE on the slot selected, or PARKED where none was (R37). -/
def State.admitted (s : State) (c : Context) (plan : Fin 8) (cap : Nat) (policy : Policy) : Context :=
  let terms := { c with plan := plan, cap := cap, policy := policy, handed := false }
  match s.selectRoute c.home with
  | some i => { terms with state := .idle, route := some i, deadline := some s.idleDeadline }
  | none => { terms with state := .parked, deadline := some s.parkDeadline }

/-- ADMIT (R36, R37). -/
def admitContextRule (q : Option Request) (_ : List Byte) (s : State) : State × Reply :=
  match q with
  | some (.admitContext h i plan cap policy) =>
    if s.namesContext h i = false then (s, .refusal .noContext)
    else if (s.ctx h).state ≠ .probation then (s, .refusal .wrongState)
    else
      let c := s.admitted (s.ctx h) plan cap policy
      (s.commit h c,
        .ok (handleOctets h ++ octets 1 c.state.code ++ optSlot c.route ++ octets 4 (c.deadline.getD 0)))
  | _ => (s, .refusal .badField)

def execAdmitContext (s : State) : Outcome := .next (s.serve .admitContext admitContextRule)

/-- REFUSE: a PROBATION context returns to FREE (R38). -/
def refuseRule (q : Option Request) (_ : List Byte) (s : State) : State × Reply :=
  match q with
  | some (.refuse h i) =>
    if s.namesContext h i = false then (s, .refusal .noContext)
    else if (s.ctx h).state ≠ .probation then (s, .refusal .wrongState)
    else (s.commit h Context.free, .ok (handleOctets h))
  | _ => (s, .refusal .badField)

def execRefuse (s : State) : Outcome := .next (s.serve .refuse refuseRule)

/-- NEXT_PROBATION: the oldest unhanded entry is handed out, or EMPTY (R34). -/
def nextProbationRule (q : Option Request) (_ : List Byte) (s : State) : State × Reply :=
  match q with
  | some .nextProbation =>
    match s.firstUnhanded with
    | none => (s, .refusal .empty)
    | some h =>
      let c := s.ctx h
      (s.commit h { c with handed := true },
        .ok (handleOctets h ++ identityOctets c.identity ++ octets 3 c.home ++ octets 1 c.cell.val
          ++ octets 4 (c.deadline.getD 0)))
  | _ => (s, .refusal .badField)

def execNextProbation (s : State) : Outcome := .next (s.serve .nextProbation nextProbationRule)

/-- The fields of a settlement report (R53). -/
def settlementFields (h : Handle) (queueLength : Nat) (c : Context) : List Byte :=
  handleOctets h ++ octets 2 queueLength ++ identityOctets c.identity ++ octets 3 c.home ++ octets 1 c.plan.val
    ++ octets 4 c.cap ++ octets 1 c.policy.code ++ octets 4 c.overrun ++ flagField c.barred ++ flagField c.slow
    ++ listOctets Allowance.octets c.allowances ++ octets 3 c.remainder
    ++ octets 3 ((c.voice.map (·.billed)).getD 0) ++ flagField c.lingerOpen

/-- NEXT_SETTLEMENT: the entry skip places behind the head, or EMPTY with the queue length (R53). -/
def nextSettlementRule (q : Option Request) (_ : List Byte) (s : State) : State × Reply :=
  match q with
  | some (.nextSettlement skip) =>
    match s.store.settlement[skip]? with
    | none => (s, ⟨.empty, octets 2 s.store.settlement.length⟩)
    | some h => (s, .ok (settlementFields h s.store.settlement.length (s.ctx h)))
  | _ => (s, .refusal .badField)

def execNextSettlement (s : State) : Outcome := .next (s.serve .nextSettlement nextSettlementRule)

/-- SETTLE: a LINGER context whose linger has closed returns to FREE (R54). -/
def settleContextRule (q : Option Request) (_ : List Byte) (s : State) : State × Reply :=
  match q with
  | some (.settleContext h) =>
    if (s.ctx h).state = .free then (s, .refusal .noContext)
    else if (s.ctx h).state = .linger ∧ (s.ctx h).lingerOpen = false then
      let t := s.commit h Context.free
      (t, .ok (handleOctets h ++ octets 2 t.store.freeCount))
    else (s, .refusal .wrongState)
  | _ => (s, .refusal .badField)

def execSettleContext (s : State) : Outcome := .next (s.serve .settleContext settleContextRule)

end Sys2Proof.Machine
end

