-- ==== Sys2Proof/Machine/Links.lean ====
section
/-! DEFINITION. The link requests, probe results and timer expiries of the Link Supervisor (chapter 7). -/

namespace Sys2Proof.Machine

/-- The settings applied by CONFIGURE_LINK, each clamped to its range (R133). -/
def LinkSlot.configured (l : LinkSlot) (kind : LinkKind) (satOperator dwell track base f1 f2 threshold count : Nat) :
    LinkSlot :=
  { l with
    kind := kind
    satOperator := min satOperator Config.maxCode
    scanDwell := max dwell 1
    trackTime := max track 1
    carryBase := CarryBase.ofCode base
    f1 := max f1 1
    f2 := max f2 1
    demoteThreshold := min threshold 63
    demoteCount := max 1 (min count 15) }

/-- Whether a CONFIGURE_LINK takes a slot from SCAN or TRACK back to the top of its list: another kind, or for a
SAT slot a changed SAT operator, in TRACK one other than the tracked operator (R135). -/
def LinkSlot.rescans (old new : LinkSlot) : Bool :=
  decide (new.kind ≠ old.kind)
    || (decide (new.kind = .sat) && decide (new.satOperator ≠ old.satOperator)
        && decide (old.state = .scan ∨ old.tracked ≠ some new.satOperator))

/-- A taken CONFIGURE_LINK on its slot: the settings, then the link state by the state held and the kind change; a
slot that leaves CARRY joins the lost set (R135). -/
def State.configureSlot (s : State) (i : LinkId) (new : LinkSlot) : State :=
  let old := s.link i
  let t := s.setLink i new
  let list := t.candidates i
  match old.state with
  | .off =>
    if new.kind = .unused ∨ new.kind = old.kind then t else t.setLink i (new.toScan list s.runState)
  | .scan =>
    if new.kind = .unused then t.setLink i new.toOff
    else if old.rescans new then t.setLink i (new.toScan list s.runState) else t
  | .track =>
    if new.kind = .unused then t.setLink i new.toOff
    else if old.rescans new then t.setLink i (new.toScan list s.runState) else t
  | .carry =>
    if new.kind = .unused then (t.setLink i new.toOff).joinLost i
    else if new.kind ≠ old.kind then (t.setLink i (new.toScan list s.runState)).joinLost i else t

/-- The fields of an answer to CONFIGURE_LINK (R133). The carry monitor time of R134 is carried in milliseconds, in
three octets: R133 and R186 give no unit (DEDUCED, notes/assumptions/9.md). -/
def State.configureFields (s : State) (i : LinkId) : List Byte :=
  let l := s.link i
  octets 1 i.val ++ octets 1 l.kind.code ++ octets 3 l.satOperator ++ octets 1 l.scanDwell ++ octets 1 l.trackTime
    ++ octets 1 l.carryBase.code ++ octets 1 l.f1 ++ octets 1 l.f2 ++ octets 1 l.demoteThreshold
    ++ octets 1 l.demoteCount ++ octets 3 l.carryMs ++ octets 1 l.state.code ++ optOctets 3 (s.tryOperator i)
    ++ flagField (s.isLost i)

/-- CONFIGURE_LINK (R133). -/
def configureLinkRule (q : Option Request) (_ : List Byte) (s : State) : State × Reply :=
  match q with
  | some (.configureLink i kind op dwell track base f1 f2 threshold count) =>
    let t := s.configureSlot i ((s.link i).configured kind op dwell track base f1 f2 threshold count)
    (t, .ok (t.configureFields i))
  | _ => (s, .refusal .badField)

def execConfigureLink (s : State) : Outcome := .next (s.serve .configureLink configureLinkRule)

/-! ## Probe results -/

/-- A probe result in SCAN (R141). -/
def State.probeScan (s : State) (i : LinkId) (success : Bool) (quality operator : Nat) : State :=
  let l := s.link i
  if s.candidates i = [] then s
  else if success then
    if s.tryOperator i = some operator then
      (s.setLink i { l with
        state := .track, dwell := none, tracked := some operator, quality := some quality
        trackMonitor := some l.trackMicros }).raiseFound i
    else s
  else s.setLink i (l.advance (s.candidates i))

/-- A probe result in TRACK (R142). -/
def State.probeTrack (s : State) (i : LinkId) (success : Bool) (quality operator : Nat) : State :=
  let l := s.link i
  if success ∧ l.tracked = some operator then
    s.setLink i { l with trackMonitor := some l.trackMicros, quality := some quality }
  else s

/-- A weak result: the counter increases, and at the demote count the slot is demoted with LINK_WEAK (R144). -/
def State.probeWeak (s : State) (i : LinkId) (l : LinkSlot) : State :=
  let weak := { l with demoteCounter := l.demoteCounter + 1 }
  let t := s.setLink i weak
  if weak.demoteCount ≤ weak.demoteCounter then (t.demote i).raiseWeak i else t

/-- A probe result in CARRY: strong, or weak (R144). -/
def State.probeCarry (s : State) (i : LinkId) (success : Bool) (quality operator : Nat) : State :=
  let l := s.link i
  if success ∧ l.tracked = some operator then
    if l.demoteThreshold ≤ quality then
      s.setLink i { l with carryMonitor := some l.carryMicros, demoteCounter := 0, quality := some quality }
    else s.probeWeak i { l with quality := some quality }
  else s.probeWeak i l

/-- The state and try operator that a refused PROBE_RESULT reports (R140, R184). -/
def State.probeRefused (s : State) (i : LinkId) : List Byte :=
  octets 1 (s.link i).state.code ++ optOctets 3 (s.tryOperator i)

/-- The fields of an answer to a taken PROBE_RESULT (R140). -/
def State.probeFields (s : State) (i : LinkId) : List Byte :=
  let l := s.link i
  octets 1 i.val ++ octets 1 l.kind.code ++ octets 1 l.state.code ++ optOctets 3 (s.tryOperator i)
    ++ optOctets 1 l.quality ++ octets 1 l.demoteCounter ++ flagField (s.isLost i) ++ flagField (s.eligible i)

/-- A taken PROBE_RESULT acts by the slot's state (R140). -/
def State.probe (s : State) (i : LinkId) (success : Bool) (quality operator : Nat) : State :=
  match (s.link i).state with
  | .off => s
  | .scan => s.probeScan i success quality operator
  | .track => s.probeTrack i success quality operator
  | .carry => s.probeCarry i success quality operator

/-- The slot that a refused PROBE_RESULT's body names, where the body has the kind's length and the slot is within
0 to 3 (R184). -/
def probeSlot (body : List Byte) : Option LinkId :=
  match splitFields [1, 1, 1, 3] body with
  | some (i :: _) => readBelow 4 i
  | some [] => none
  | none => none

/-- PROBE_RESULT (R140). -/
def probeResultRule (q : Option Request) (body : List Byte) (s : State) : State × Reply :=
  match q with
  | some (.probeResult i success quality operator) =>
    if (s.link i).state = .off then (s, ⟨.wrongState, s.probeRefused i⟩)
    else
      let t := s.probe i success quality operator
      (t, .ok (t.probeFields i))
  | _ =>
    match probeSlot body with
    | some i => (s, ⟨.badField, s.probeRefused i⟩)
    | none => (s, .refusal .badField)

def execProbeResult (s : State) : Outcome := .next (s.serve .probeResult probeResultRule)

/-! ## Timer expiries -/

/-- DWELL_EXPIRY: in SCAN with the dwell running, the cursor advances (R139), also where a FAIL taken first has
restarted the dwell, since the cursor then advances twice (R151). It is taken whatever time is left on the running dwell
(DESIGN CHOICE, notes/assumptions/2.md). -/
def execDwellExpiry (i : LinkId) (s : State) : Outcome :=
  .next (if (s.link i).state = .scan ∧ (s.link i).dwell.isSome then
    (s.setLink i ((s.link i).advance (s.candidates i))).conclude
  else s)

/-- TRACK_MONITOR_EXPIRY: a track monitor with no time left takes the slot back to SCAN from the top, with LINK_LOST
(R143). A monitor that a confirming result has restarted has time left and does not expire (R151). -/
def execTrackMonitorExpiry (i : LinkId) (s : State) : Outcome :=
  .next (if (s.link i).state = .track ∧ (s.link i).trackMonitor = some 0 then
    ((s.setLink i ((s.link i).toScan (s.candidates i) s.runState)).raiseLinkLost i).conclude
  else s)

/-- CARRY_MONITOR_EXPIRY: a carry monitor with no time left demotes the slot, with LINK_LAPSED (R145). A monitor that
a strong result has restarted has time left and does not expire (R151). -/
def execCarryMonitorExpiry (i : LinkId) (s : State) : Outcome :=
  .next (if (s.link i).state = .carry ∧ (s.link i).carryMonitor = some 0 then ((s.demote i).raiseLapsed i).conclude
  else s)

/-! ## Link requests -/

/-- OPEN_LINK: an eligible TRACK slot that is not lost enters CARRY, and UNPARK is ordered where contexts are parked
(R147). Its answer carries the tracked operator and the last quality with no presence octet, since a slot taken to CARRY
always holds both, and the carry monitor time in milliseconds in three octets (DEDUCED, notes/assumptions/9.md). -/
def openLinkRule (q : Option Request) (_ : List Byte) (s : State) : State × Reply :=
  match q with
  | some (.openLink i) =>
    let l := s.link i
    if l.state ≠ .track then (s, .refusal .wrongState)
    else if s.eligible i = false then (s, .refusal .ineligible)
    else if s.isLost i then (s, .refusal .wrongState)
    else
      let t := s.setLink i { l with
        state := .carry, trackMonitor := none, carryMonitor := some l.carryMicros, demoteCounter := 0 }
      let unpark := decide (0 < s.migration.parkedTotal)
      (if unpark then t.order .unpark else t,
        .ok (octets 1 i.val ++ octets 3 (l.tracked.getD 0) ++ octets 1 (l.quality.getD 0) ++ octets 3 l.carryMs
          ++ flagField unpark))
  | _ => (s, .refusal .badField)

def execOpenLink (s : State) : Outcome := .next (s.serve .openLink openLinkRule)

/-- CLOSE_LINK: a CARRY slot enters TRACK and joins the lost set, with no event (R148). -/
def closeLinkRule (q : Option Request) (_ : List Byte) (s : State) : State × Reply :=
  match q with
  | some (.closeLink i) =>
    if (s.link i).state ≠ .carry then (s, .refusal .wrongState)
    else (s.demote i, .ok (octets 1 i.val ++ octets 1 LinkState.track.code))
  | _ => (s, .refusal .badField)

def execCloseLink (s : State) : Outcome := .next (s.serve .closeLink closeLinkRule)

end Sys2Proof.Machine
end

