-- ==== Sys2Proof/Machine/Port.lean ====
section
/-! DEFINITION. The Request Port's own commands: an arrival on the link, the answer to an unknown kind, and
CONFIGURE_REQUESTER (chapter 9). -/

namespace Sys2Proof.Machine

/-- An arrival: DISABLED at level 0, BUSY at a full queue, and otherwise the tail of the requester's queue (R178). -/
def State.arrive (s : State) (r : RequesterId) (m : Message) : State :=
  let e := s.entry r
  if e.level = 0 then s.send { requester := r, kind := m.kind, tag := m.tag, status := .disabled, body := [] }
  else if Config.queueDepth ≤ e.queue.length then
    s.send { requester := r, kind := m.kind, tag := m.tag, status := .busy, body := [] }
  else s.setEntry r { e with queue := e.queue ++ [m] }

/-- Whether the part receives messages: RESET_N is not asserted, and 2 ms have passed since its release (R195). -/
def State.receives (s : State) : Bool := !s.port.resetAsserted && s.port.settle = 0

/-- MESSAGE_ARRIVAL: the message the octets make up arrives; a message sent while the part receives none is lost,
and octets that are not yet a whole message are no message (R178, R187, R195). -/
def execMessageArrival (bytes : List Byte) (s : State) : Outcome :=
  .next (match readMessage bytes with
    | none => s
    | some (r, m, _) => if s.receives then (s.arrive r m).conclude else s)

/-- UNKNOWN_REQUEST: a held request whose kind code is not in the catalogue is answered so (R182, R187). -/
def execUnknownRequest (s : State) : Outcome :=
  .next (match s.inService with
    | none => s
    | some (r, m) =>
      match Kind.ofCode m.kind.toNat with
      | some _ => s
      | none => s.finish r m (.refusal .unknownRequest))

/-- The queued requests of a requester answered DISABLED, oldest first (R176). -/
def State.disableQueue (s : State) (r : RequesterId) (queue : List Message) : State :=
  queue.foldl
    (fun t m => t.send { requester := r, kind := m.kind, tag := m.tag, status := .disabled, body := [] }) s

/-- CONFIGURE_REQUESTER: the entry's class and level; level 0 empties its queue (R176). -/
def configureRequesterRule (q : Option Request) (_ : List Byte) (s : State) : State × Reply :=
  match q with
  | some (.configureRequester r cls level) =>
    let e := s.entry r
    let applied := if cls = .unused then 0 else min level 7
    let dropped := if applied = 0 then e.queue else []
    let t := (s.disableQueue r dropped).setEntry r
      { cls := cls, level := applied, queue := if applied = 0 then [] else e.queue }
    (t, .ok (octets 1 r.val ++ octets 1 cls.code ++ octets 1 applied ++ octets 1 e.cls.code ++ octets 1 e.level
      ++ octets 1 dropped.length))
  | _ => (s, .refusal .badField)

def execConfigureRequester (s : State) : Outcome := .next (s.serve .configureRequester configureRequesterRule)

end Sys2Proof.Machine
end

