-- ==== Sys2Proof/Machine/Profiles.lean ====
section
/-! DEFINITION. The profile requests, zone entry and the grace expiry (chapter 5). -/

namespace Sys2Proof.Machine

/-- OPEN_PROFILE: the lowest FREE slot becomes OPEN with cleared fields (R103). -/
def openProfileRule (q : Option Request) (_ : List Byte) (s : State) : State × Reply :=
  match q with
  | some .openProfile =>
    match s.slotIn .opened with
    | some _ => (s, .refusal .wrongState)
    | none =>
      match s.slotIn .free with
      | some i => (s.setSlot i (ProfileSlot.cleared .opened), .ok (octets 1 i.val))
      | none => (s, .refusal .wrongState)
  | _ => (s, .refusal .badField)

def execOpenProfile (s : State) : Outcome := .next (s.serve .openProfile openProfileRule)

/-- WRITE_PROFILE_HEADER: the five header fields of the OPEN slot; the grace window is clamped to 600 s (R104). -/
def writeProfileHeaderRule (q : Option Request) (_ : List Byte) (s : State) : State × Reply :=
  match q with
  | some (.writeProfileHeader zone permit eligible park grace) =>
    match s.slotIn .opened with
    | none => (s, .refusal .wrongState)
    | some i =>
      let window := min grace 600
      (s.setSlot i { s.bank.slots.get i with
          zone := zone, permit := permit, eligible := eligible, parkLimit := park, graceWindow := window },
        .ok (octets 1 i.val ++ octets 2 zone ++ octets 1 permit.code ++ octets 1 (setOctet eligible)
          ++ octets 2 park ++ octets 2 window))
  | _ => (s, .refusal .badField)

def execWriteProfileHeader (s : State) : Outcome := .next (s.serve .writeProfileHeader writeProfileHeaderRule)

/-- The five values of a tariff row in an answer, each in the width it is carried in (R105). -/
def TariffRow.octets (r : TariffRow) : List Byte :=
  Machine.octets 4 r.blockSize ++ Machine.octets 2 r.dataPrice ++ Machine.octets 2 r.voicePrice
    ++ Machine.octets 1 r.increment ++ Machine.octets 2 r.minimum

/-- The tariff row applied: the increment held to 1 to 60 s and the minimum to 300 s (R105). -/
def TariffRow.carried (blockSize dataPrice voicePrice increment minimum : Nat) : TariffRow :=
  { blockSize := blockSize, dataPrice := dataPrice, voicePrice := voicePrice
    increment := max 1 (min increment 60), minimum := min minimum 300, written := true }

/-- A profile with one row replaced. -/
def ProfileSlot.setRow (p : ProfileSlot) (plan : Fin 8) (column : Column) (r : TariffRow) : ProfileSlot :=
  { p with rows := p.rows.set (rowIndex plan column).val r (rowIndex plan column).isLt }

/-- WRITE_TARIFF_ROW: one row of the OPEN slot; a block size out of range is refused (R105). -/
def writeTariffRowRule (q : Option Request) (_ : List Byte) (s : State) : State × Reply :=
  match q with
  | some (.writeTariffRow plan column b pd pv i m) =>
    match s.slotIn .opened with
    | none => (s, .refusal .wrongState)
    | some slot =>
      if b < 256 ∨ 1048576 < b then (s, .refusal .badField)
      else
        let row := TariffRow.carried b pd pv i m
        let p := (s.bank.slots.get slot).setRow plan column row
        (s.setSlot slot p,
          .ok (octets 1 slot.val ++ octets 1 plan.val ++ octets 1 column.code ++ row.octets ++ octets 1 p.rowsWritten))
  | _ => (s, .refusal .badField)

def execWriteTariffRow (s : State) : Outcome := .next (s.serve .writeTariffRow writeTariffRowRule)

/-- Every code equal to one earlier in the list dropped; `seen` holds the codes kept so far. -/
def dropRepeats : List Nat → List Nat → List Nat
  | _, [] => []
  | seen, c :: cs => if seen.contains c then dropRepeats seen cs else c :: dropRepeats (seen ++ [c]) cs

/-- The candidate list applied: codes clamped, repeats dropped, six kept (R106). -/
def appliedCandidates (codes : List Nat) : List Nat :=
  (dropRepeats [] (codes.map (min · Config.maxCode))).take Config.candidateCount

/-- A list of operator codes in an answer. -/
def codeListOctets (codes : List Nat) : List Byte := listOctets (octets 3) codes

/-- WRITE_CANDIDATES: one link slot's list in the OPEN slot (R106). -/
def writeCandidatesRule (q : Option Request) (_ : List Byte) (s : State) : State × Reply :=
  match q with
  | some (.writeCandidates slot codes) =>
    match s.slotIn .opened with
    | none => (s, .refusal .wrongState)
    | some i =>
      let p := s.bank.slots.get i
      let list := appliedCandidates codes
      (s.setSlot i { p with candidates := p.candidates.set slot list },
        .ok (octets 1 i.val ++ octets 1 slot.val ++ codeListOctets list))
  | _ => (s, .refusal .badField)

def execWriteCandidates (s : State) : Outcome := .next (s.serve .writeCandidates writeCandidatesRule)

/-- The fields of a profile report (R107). -/
def ProfileSlot.octets (p : ProfileSlot) (row : Option (Fin 8 × Column)) : List Byte :=
  Machine.octets 1 p.role.code ++ Machine.octets 2 p.zone ++ Machine.octets 1 p.permit.code
    ++ Machine.octets 2 p.parkLimit ++ Machine.octets 2 p.graceWindow ++ Machine.octets 1 (setOctet p.eligible)
    ++ slotIds.flatMap (fun i => codeListOctets (p.candidates.get i)) ++ Machine.octets 1 p.rowsWritten
    ++ (match row with
        | none => []
        | some (plan, column) => (p.row plan column).octets ++ flagField (p.row plan column).written)

/-- READ_PROFILE (R107). -/
def readProfileRule (q : Option Request) (_ : List Byte) (s : State) : State × Reply :=
  match q with
  | some (.readProfile i row) => (s, .ok ((s.bank.slots.get i).octets row))
  | _ => (s, .refusal .badField)

def execReadProfile (s : State) : Outcome := .next (s.serve .readProfile readProfileRule)

/-- DISCARD_PROFILE: an OPEN or STAGED slot becomes FREE (R108). -/
def discardProfileRule (q : Option Request) (_ : List Byte) (s : State) : State × Reply :=
  match q with
  | some (.discardProfile i) =>
    match (s.bank.slots.get i).role with
    | .opened => (s.freeSlot i, .ok (octets 1 i.val))
    | .staged => (s.freeSlot i, .ok (octets 1 i.val))
    | .free => (s, .refusal .wrongState)
    | .live => (s, .refusal .wrongState)
    | .grace => (s, .refusal .wrongState)
  | _ => (s, .refusal .badField)

def execDiscardProfile (s : State) : Outcome := .next (s.serve .discardProfile discardProfileRule)

/-- The conditions of R109 that a profile fails: member 0 zone 0, member 1 the LIVE zone, member 2 rows unwritten. -/
def State.stagingFaults (s : State) (p : ProfileSlot) : Nat :=
  flagOctet (p.zone = 0) + 2 * flagOctet (p.zone = s.live.zone) + 4 * flagOctet (p.rowsWritten ≠ 16)

/-- The slots that a staging frees: the STAGED slot, and a GRACE slot of the same zone (R110). -/
def State.stagingFrees (s : State) (zone : Nat) : List ProfileId :=
  (match s.slotIn .staged with | some i => [i] | none => [])
    ++ (match s.slotIn .grace with
        | some g => if (s.bank.slots.get g).zone = zone then [g] else []
        | none => [])

/-- The bank after steps 1 to 3 of R110: the slots freed, the deadline gone with a GRACE slot, and the OPEN slot
STAGED. -/
def State.stage (s : State) (i : ProfileId) : State :=
  let zone := (s.bank.slots.get i).zone
  let t := (s.stagingFrees zone).foldl State.freeSlot s
  let t := if s.zoneIn .grace = some zone then t.setGrace none else t
  t.setRole i .staged

/-- A set of profile slots in one octet. -/
def slotSet (list : List ProfileId) : Nat :=
  setOctet ⟨list.contains 0, list.contains 1, list.contains 2, list.contains 3⟩

/-- STAGE_PROFILE: validation, staging, and promotion at once where the staged zone is the present zone (R109, R110,
R111). The answer carries the slots freed as a set with no presence octet, the empty set standing for none (DEDUCED,
notes/assumptions/9.md). -/
def stageProfileRule (q : Option Request) (_ : List Byte) (s : State) : State × Reply :=
  match q with
  | some .stageProfile =>
    match s.slotIn .opened with
    | none => (s, .refusal .wrongState)
    | some i =>
      let p := s.bank.slots.get i
      if s.stagingFaults p ≠ 0 then (s, ⟨.badProfile, octets 1 (s.stagingFaults p) ++ octets 1 p.rowsWritten⟩)
      else
        let promoted := decide (p.zone = s.bank.presentZone)
        let t := if promoted then (s.stage i).promote i else s.stage i
        (t, .ok (octets 1 i.val ++ octets 2 p.zone ++ octets 1 (slotSet (s.stagingFrees p.zone))
          ++ flagField promoted ++ octets 1 t.liveSlot.val ++ optSlot (t.slotIn .grace)))
  | _ => (s, .refusal .badField)

def execStageProfile (s : State) : Outcome := .next (s.serve .stageProfile stageProfileRule)

/-- The cases of a zone entry (R112), in the order of their codes (R186). -/
inductive EntryCase where
  | unchanged | staged | returned | unplanned
  deriving DecidableEq, Repr

def EntryCase.code : EntryCase → Nat
  | .unchanged => 0
  | .staged => 1
  | .returned => 2
  | .unplanned => 3

/-- The case taken, and the slot that becomes LIVE where there is one (R112). -/
def State.entryCase (s : State) (zone : Nat) : EntryCase × Option ProfileId :=
  if zone = s.live.zone then (.unchanged, none)
  else if s.zoneIn .staged = some zone then (.staged, s.slotIn .staged)
  else if s.zoneIn .grace = some zone then (.returned, s.slotIn .grace)
  else (.unplanned, none)

/-- The fields of an answer to ENTER_ZONE (R112). -/
def State.entryFields (s : State) (c : EntryCase) : List Byte :=
  octets 1 c.code ++ octets 2 s.bank.presentZone ++ octets 1 s.liveSlot.val ++ octets 2 s.live.zone
    ++ optSlot (s.slotIn .grace) ++ optOctets 2 (s.zoneIn .grace) ++ optOctets 4 s.bank.graceDeadline
    ++ optSlot (s.slotIn .staged) ++ optOctets 2 (s.zoneIn .staged) ++ octets 1 s.coverage.mode.code

/-- The present zone set, and the case's effect (R112 to R115). -/
def State.enterZone (s : State) (zone : Nat) : State :=
  let t := { s with bank := { s.bank with presentZone := zone } }
  match s.entryCase zone with
  | (.unchanged, _) => t
  | (.unplanned, _) => t.raiseMissing zone
  | (.staged, some i) => t.promote i
  | (.returned, some i) => t.promote i
  | (.staged, none) => t
  | (.returned, none) => t

/-- ENTER_ZONE (R112). -/
def enterZoneRule (q : Option Request) (_ : List Byte) (s : State) : State × Reply :=
  match q with
  | some (.enterZone zone) =>
    let t := s.enterZone zone
    let c := (s.entryCase zone).1
    (t, ⟨if c = .unchanged then .unchanged else .ok, t.entryFields c⟩)
  | _ => (s, .refusal .badField)

def execEnterZone (s : State) : Outcome := .next (s.serve .enterZone enterZoneRule)

/-- GRACE_EXPIRY: taken where a GRACE slot is present and its deadline is reached (R117). -/
def execGraceExpiry (s : State) : Outcome :=
  .next (if (s.slotIn .grace).isSome ∧ s.reached s.bank.graceDeadline then s.expireGrace.conclude else s)

end Sys2Proof.Machine
end

