-- ==== Sys2Proof/Machine/Rating.lean ====
section
/-! DEFINITION. The Rating Unit (chapter 4): a usage report's five stages, its answer and its events. -/

namespace Sys2Proof.Machine

/-! ## Stage 0: the tariff row (R76 to R78) -/

/-- The profile slot stage 0 chooses, whether it is the GRACE slot, and whether the zone tag makes the report stale
(R76). -/
def State.chooseProfile (s : State) (tag : Nat) : ProfileId × Bool × Bool :=
  if tag = 0 ∨ tag = s.live.zone then (s.liveSlot, false, false)
  else match s.slotIn .grace with
    | some g => if (s.bank.slots.get g).zone = tag then (g, true, false) else (s.liveSlot, false, true)
    | none => (s.liveSlot, false, true)

/-- The column of a link kind, and whether the kind makes the report stale (R77). -/
def LinkKind.column : LinkKind → Column × Bool
  | .shore => (.shore, false)
  | .sat => (.sat, false)
  | .unused => (.shore, true)

/-! ## Stages 1 to 4 -/

/-- What stages 1 and 2 leave (R79, R80). -/
structure DataStage where
  allowances : List Allowance
  tags : List Byte
  absorbed : Nat
  blocks : Nat
  remainder : Nat
  money : Nat
  deriving DecidableEq, Repr

/-- Stages 1 and 2: the volume drawn from OCTETS allowances, and the rest counted with the remainder into priced
blocks (R79, R80). A remainder at or above the block size yields blocks by itself (R81). -/
def dataStage (row : TariffRow) (allowances : List Allowance) (remainder volume : Nat) : DataStage :=
  let d := draw .octets volume allowances
  let total := remainder + d.rest
  let blocks := total / row.blockSize
  { allowances := d.allowances
    tags := d.tags
    absorbed := volume - d.rest
    blocks := blocks
    remainder := total - blocks * row.blockSize
    money := blocks * row.dataPrice }

/-- Stages 1 and 2 of a report whose three counts are zero: nothing is drawn or priced, and the remainder is carried
unchanged, at or above the block size too (R75). That R75 goes before R80 and R81 there is the model's reading (DEDUCED,
notes/assumptions/17.md). -/
def emptyDataStage (allowances : List Allowance) (remainder : Nat) : DataStage where
  allowances := allowances
  tags := []
  absorbed := 0
  blocks := 0
  remainder := remainder
  money := 0

/-- What stage 3 leaves (R82 to R87). -/
structure VoiceStage where
  allowances : List Allowance
  tags : List Byte
  record : Option VoiceRecord
  unrated : Nat
  charged : Nat
  absorbed : Nat
  priced : Nat
  price : Nat
  money : Nat
  deriving DecidableEq, Repr

/-- The billable seconds of an elapsed count: rounded up to whole increments, at least the minimum, at most the
record's maximum (R83). -/
def billable (row : TariffRow) (elapsed : Nat) : Nat :=
  min (max ((elapsed + row.increment - 1) / row.increment * row.increment) row.minimum) Config.maxVoice

/-- Stage 3 on a present record with seconds above 0 (R83 to R87). -/
def rateVoice (row : TariffRow) (allowances : List Allowance) (v : VoiceRecord) (seconds : Nat) : VoiceStage :=
  let elapsed := min (v.elapsed + seconds) Config.maxVoice
  let due := billable row elapsed
  let charged := due - v.billed
  let billed := max due v.billed
  let d := if v.emergency then ⟨allowances, charged, []⟩ else draw .seconds charged allowances
  let price := if v.emergency then 0 else row.voicePrice
  let x := d.rest * price + v.fraction
  { allowances := d.allowances
    tags := d.tags
    record := some { v with elapsed := elapsed, billed := billed, fraction := x % 60 }
    unrated := 0
    charged := charged
    absorbed := charged - d.rest
    priced := d.rest
    price := price
    money := x / 60 }

/-- Stage 3: nothing where no seconds are reported, unrated seconds where there is no record, and rated otherwise
(R82). -/
def voiceStage (row : TariffRow) (allowances : List Allowance) (record : Option VoiceRecord) (seconds : Nat) : VoiceStage :=
  match record with
  | none =>
    { allowances := allowances, tags := [], record := none, unrated := seconds, charged := 0, absorbed := 0
      priced := 0, price := row.voicePrice, money := 0 }
  | some v =>
    if seconds = 0 then
      { allowances := allowances, tags := [], record := some v, unrated := 0, charged := 0, absorbed := 0
        priced := 0, price := if v.emergency then 0 else row.voicePrice, money := 0 }
    else rateVoice row allowances v seconds

/-- What stage 4 leaves (R89, R90). -/
structure MoneyStage where
  allowances : List Allowance
  tags : List Byte
  money : Nat
  drawn : Nat
  unpaid : Nat
  overrun : Nat
  added : Nat
  writtenOff : Nat
  deriving DecidableEq, Repr

/-- Stage 4: the money drawn from UNITS allowances, and the unpaid rest laid on the overrun up to the cap (R89,
R90). -/
def moneyStage (allowances : List Allowance) (overrun cap money : Nat) : MoneyStage :=
  let d := draw .units money allowances
  let after := min (overrun + d.rest) cap
  { allowances := d.allowances
    tags := d.tags
    money := money
    drawn := money - d.rest
    unpaid := d.rest
    overrun := after
    added := after - overrun
    writtenOff := overrun + d.rest - after }

/-- Whether a rating meets the cap (R67). -/
def MoneyStage.meetsCap (m : MoneyStage) (cap : Nat) : Bool :=
  decide (0 < m.writtenOff) || (decide (0 < m.unpaid) && decide (m.overrun = cap))

/-- The three stages of a taken report on a context, each reading what the one before it left (R74). -/
structure Rated where
  dataPart : DataStage
  voicePart : VoiceStage
  moneyPart : MoneyStage
  deriving DecidableEq, Repr

/-- A taken report rated through stages 1 to 4 with the row of stage 0 (R74, R75). -/
def rate (row : TariffRow) (c : Context) (volume seconds : Nat) : Rated :=
  let d := if volume = 0 ∧ seconds = 0 then emptyDataStage c.allowances c.remainder
    else dataStage row c.allowances c.remainder volume
  let v := voiceStage row d.allowances c.voice seconds
  { dataPart := d, voicePart := v, moneyPart := moneyStage v.allowances c.overrun c.cap (d.money + v.money) }

/-- The tags removed, in the order their entries left the list (R92). -/
def Rated.tags (r : Rated) : List Byte := r.dataPart.tags ++ r.voicePart.tags ++ r.moneyPart.tags

/-- The context after the stages, the policy and the activity of a taken report (R67, R74, R75). -/
def Rated.apply (r : Rated) (c : Context) (active : Bool) (idleDeadline : Nat) : Context :=
  let charged := { c with
    allowances := r.moneyPart.allowances
    remainder := r.dataPart.remainder
    voice := r.voicePart.record
    overrun := r.moneyPart.overrun }
  let kept := if active then charged.renew idleDeadline else charged
  if r.moneyPart.meetsCap c.cap then kept.meetCap idleDeadline else kept

/-! ## The request -/

/-- The refusal of a report by its context, with the context's state and identity where the rule names them (R73);
none where the report is taken. -/
def Context.reportRefusal (c : Context) : Option Reply :=
  let told := octets 1 c.state.code ++ identityOctets c.identity
  match c.state with
  | .free => some (.refusal .noContext)
  | .probation => some ⟨.wrongState, told⟩
  | .idle | .carrying | .parked => none
  | .linger => if c.lingerOpen then none else some ⟨.tooLate, told⟩

/-- The answer to a taken report (R92). -/
def reportFields (h : Handle) (c : Context) (grace : Bool) (zone : Nat) (column : Column) (stale : Bool) (r : Rated)
    (cap : Nat) : List Byte :=
  let d := r.dataPart
  let v := r.voicePart
  let m := r.moneyPart
  handleOctets h ++ identityOctets c.identity ++ octets 1 c.state.code
    ++ octets 1 (if grace then Role.grace.code else Role.live.code) ++ octets 2 zone ++ octets 1 column.code
    ++ flagField stale
    ++ octets 4 d.absorbed ++ octets 3 d.blocks ++ octets 3 d.remainder ++ octets 5 d.money
    ++ octets 2 v.unrated ++ octets 3 ((v.record.map (·.elapsed)).getD 0) ++ octets 3 ((v.record.map (·.billed)).getD 0)
    ++ octets 3 v.charged ++ octets 3 v.absorbed ++ octets 3 v.priced ++ octets 2 v.price
    ++ octets 1 ((v.record.map (·.fraction)).getD 0) ++ octets 4 v.money
    ++ octets 5 m.money ++ octets 5 m.drawn ++ octets 4 m.added ++ octets 5 m.writtenOff
    ++ octets 4 c.overrun ++ octets 4 c.cap ++ flagField (m.meetsCap cap) ++ flagField c.barred ++ flagField c.slow
    ++ listOctets (fun t => octets 1 t.toNat) r.tags ++ octets 1 c.allowances.length

/-- REPORT_USAGE: the report is checked against its context, rated whole, and answered; each tag removed raises
ALLOWANCE_SPENT, and a cap met raises CAP_REACHED after them (R72 to R93). -/
def reportUsageRule (q : Option Request) (_ : List Byte) (s : State) : State × Reply :=
  match q with
  | some (.reportUsage h slot tag up down seconds) =>
    let c := s.ctx h
    match c.reportRefusal with
    | some reply => (s, reply)
    | none =>
      let chosen := s.chooseProfile tag
      let column := (s.link slot).kind.column
      let profile := s.bank.slots.get chosen.1
      let r := rate (profile.row c.plan column.1) c (up + down) seconds
      let active := decide (0 < up ∨ 0 < down ∨ 0 < seconds)
      let c' := r.apply c active s.idleDeadline
      let t := r.tags.foldl (fun t tag => t.raiseSpent h tag) (s.commit h c')
      let t := if r.moneyPart.meetsCap c.cap then t.raiseCap h else t
      (t, .ok (reportFields h c' chosen.2.1 profile.zone column.1 (chosen.2.2 || column.2) r c.cap))
  | _ => (s, .refusal .badField)

def execReportUsage (s : State) : Outcome := .next (s.serve .reportUsage reportUsageRule)

end Sys2Proof.Machine
end

