-- ==== Sys2Proof/Machine/Routes.lean ====
section
/-! DEFINITION. The route requests, SHIFT and ABORT_SHIFT, and the steps of the FAILOVER, UNPARK and SHIFT walks
(chapter 8). -/

namespace Sys2Proof.Machine

/-! ## The Route Table -/

/-- A list of link slots in an answer. -/
def slotListOctets (list : List LinkId) : List Byte := listOctets (fun i => octets 1 i.val) list

/-- UNPARK is ordered where the parked total is above 0 (R147, R153). -/
def State.orderUnpark (s : State) : State := if 0 < s.migration.parkedTotal then s.order .unpark else s

/-- SET_ROUTE: the default list, or a home entry's list (R153). -/
def setRouteRule (q : Option Request) (_ : List Byte) (s : State) : State × Reply :=
  match q with
  | some (.setRoute target list) =>
    let unpark := flagField (0 < s.migration.parkedTotal)
    match target with
    | .default =>
      let t := { s with routes := { s.routes with default := list } }.orderUnpark
      (t, .ok (target.octets ++ slotListOctets list ++ flagField false ++ octets 1 t.routes.homes.length ++ unpark))
    | .home code =>
      if (s.routes.own code).isNone ∧ Config.homeEntryCount ≤ s.routes.homes.length then (s, .refusal .full)
      else
        let t := { s with routes := s.routes.put code list }.orderUnpark
        (t, .ok (target.octets ++ slotListOctets list ++ flagField (s.routes.own code).isNone
          ++ octets 1 t.routes.homes.length ++ unpark))
  | _ => (s, .refusal .badField)

def execSetRoute (s : State) : Outcome := .next (s.serve .setRoute setRouteRule)

/-- CLEAR_ROUTE: a home entry is removed (R154). -/
def clearRouteRule (q : Option Request) (_ : List Byte) (s : State) : State × Reply :=
  match q with
  | some (.clearRoute (.home code)) =>
    if (s.routes.own code).isNone then (s, .refusal .noEntry)
    else
      let t := { s with routes := s.routes.remove code }
      (t, .ok (octets 3 code ++ octets 1 t.routes.homes.length))
  | _ => (s, .refusal .badField)

def execClearRoute (s : State) : Outcome := .next (s.serve .clearRoute clearRouteRule)

/-- READ_ROUTE: the list that applies, its source OWN (0) or DEFAULT (1), and the entry count (R155). -/
def readRouteRule (q : Option Request) (_ : List Byte) (s : State) : State × Reply :=
  match q with
  | some (.readRoute target) =>
    let own := match target with
      | .home code => s.routes.own code
      | .default => none
    (s, .ok (slotListOctets (own.getD s.routes.default) ++ octets 1 (flagOctet own.isNone)
      ++ octets 1 s.routes.homes.length))
  | _ => (s, .refusal .badField)

def execReadRoute (s : State) : Outcome := .next (s.serve .readRoute readRouteRule)

/-! ## SHIFT -/

/-- SHIFT: the record, the draining slot and the order (R169). -/
def shiftRule (q : Option Request) (_ : List Byte) (s : State) : State × Reply :=
  match q with
  | some (.shift src dst) =>
    if s.migration.shift.isSome then (s, .refusal .engineBusy)
    else if (s.link dst).state ≠ .carry then (s, .refusal .wrongState)
    else if s.eligible dst = false then (s, .refusal .ineligible)
    else if s.isLost src then (s, .refusal .wrongState)
    else
      let t := { s with migration := { s.migration with
        shift := some ⟨src, dst, 0⟩, draining := some src } }.order .shift
      (t, .ok (octets 1 src.val ++ octets 1 dst.val ++ octets 1 (flagOctet t.migration.orders.shift)
        ++ octets 2 (s.store.routeCounts.get src)))
  | _ => (s, .refusal .badField)

def execShift (s : State) : Outcome := .next (s.serve .shift shiftRule)

/-- ABORT_SHIFT (R172). -/
def abortShiftRule (q : Option Request) (_ : List Byte) (s : State) : State × Reply :=
  match q with
  | some .abortShift =>
    match s.migration.shift with
    | none => (s, .refusal .wrongState)
    | some r => (s.dropShift, .ok (octets 1 r.src.val ++ octets 1 r.dst.val ++ octets 2 r.moved))
  | _ => (s, .refusal .badField)

def execAbortShift (s : State) : Outcome := .next (s.serve .abortShift abortShiftRule)

/-! ## Walk steps -/

/-- A routed context, IDLE or CARRYING (R3). -/
def Context.routed (c : Context) : Bool := c.state = .idle || c.state = .carrying

/-- A context that parks: its route unbound, its bearers as they stood, the park deadline (R165). -/
def Context.park (c : Context) (deadline : Nat) : Context :=
  { c with state := .parked, route := none, deadline := some deadline }

/-- The FAILOVER step at a handle: a context routed to a lost slot is reselected, or parks (R165). -/
def State.failoverWork (s : State) (h : Handle) : State :=
  let c := s.ctx h
  match c.routed, c.route with
  | true, some lost =>
    if s.isLost lost then
      match s.selectRoute c.home with
      | some i => s.commit h { c with route := some i }
      | none =>
        let t := s.commit h (c.park s.parkDeadline)
        { t with migration := { t.migration with parkedCount := t.migration.parkedCount + 1 } }
    else s
  | true, none => s
  | false, _ => s

/-- The completion of a FAILOVER walk (R167). -/
def State.failoverComplete (s : State) : State :=
  let t := { s with migration := { s.migration with lost := Four.all false } }.raiseFailoverDone s.migration.parkedCount
  let t := { t with migration := { t.migration with parkedCount := 0 } }
  let t := if t.anyCarry = false ∧ 0 < t.migration.parkedTotal then t.raisePlain .backhaulLost else t
  t.nextWalk

/-- FAILOVER_STEP (R163, R165). -/
def execFailoverStep (s : State) : Outcome :=
  .next (s.walkStep .failover (fun h t => t.failoverWork h) State.failoverComplete)

/-- A restored context: IDLE with the idle deadline where no bearer is open, else CARRYING (R168). -/
def Context.restore (c : Context) (i : LinkId) (idleDeadline : Nat) : Context :=
  if c.anyBearer then { c with state := .carrying, route := some i, deadline := none }
  else { c with state := .idle, route := some i, deadline := some idleDeadline }

/-- The UNPARK step at a handle: a PARKED context is restored to the slot selected (R168). -/
def State.unparkWork (s : State) (h : Handle) : State :=
  let c := s.ctx h
  if c.state = .parked then
    match s.selectRoute c.home with
    | some i => s.commit h (c.restore i s.idleDeadline)
    | none => s
  else s

/-- UNPARK_STEP (R163, R168). -/
def execUnparkStep (s : State) : Outcome :=
  .next (s.walkStep .unpark (fun h t => t.unparkWork h) State.nextWalk)

/-- The SHIFT step at a handle: a context routed to the from-slot is bound to the to-slot (R170). -/
def State.shiftWork (s : State) (h : Handle) : State :=
  let c := s.ctx h
  match s.migration.shift with
  | none => s
  | some r =>
    if c.routed ∧ c.route = some r.src then
      let t := s.commit h { c with route := some r.dst }
      { t with migration := { t.migration with shift := some { r with moved := r.moved + 1 } } }
    else s

/-- The completion of the SHIFT walk (R170). -/
def State.shiftComplete (s : State) : State :=
  let moved := match s.migration.shift with
    | some r => r.moved
    | none => 0
  ({ s with migration := { s.migration with shift := none, draining := none } }.raiseShiftDone moved).nextWalk

/-- SHIFT_STEP (R163, R170). -/
def execShiftStep (s : State) : Outcome :=
  .next (s.walkStep .shift (fun h t => t.shiftWork h) State.shiftComplete)

end Sys2Proof.Machine
end

