-- ==== Sys2Proof/Machine/Startup.lean ====
section
/-! DEFINITION. Power-on and the RESET line, START, the limits, READ_STATUS and CLEAR_VOYAGE (chapter 11). -/

namespace Sys2Proof.Machine

/-- Every block in its initial state. The queue of commands and the transcript of answers already sent are no block
of the part and stay (R195). -/
def State.initialized (s : State) (asserted : Bool) (settle : Nat) : State :=
  { State.reset with
    pending := s.pending
    port := { State.reset.port with resetAsserted := asserted, settle := settle, sent := s.port.sent } }

/-- POWER_ON: every block in its initial state, as on a release of RESET_N: the first message is received 2 ms later
(R195). -/
def execPowerOn (s : State) : Outcome := .next (s.initialized false Config.settleMicros)

/-- RESET_LINE: the assertion of RESET_N abandons all work and puts every block into its initial state (R195). -/
def execResetLine (s : State) : Outcome := .next (s.initialized true 0)

/-- RESET_RELEASE: the part receives messages again after 2 ms (R195). A line that is not asserted has no release. -/
def execResetRelease (s : State) : Outcome :=
  .next (if s.port.resetAsserted then
    { s with port := { s.port with resetAsserted := false, settle := Config.settleMicros } } else s)

/-! ## START (R196) -/

/-- The five limits in an answer. -/
def Limits.octets (l : Limits) : List Byte :=
  Machine.octets 2 l.probation ++ Machine.octets 4 l.idle ++ Machine.octets 2 l.linger ++ Machine.octets 2 l.hold
    ++ Machine.octets 1 l.quiet.code

/-- A slot in SCAN whose candidate list is not empty starts its dwell (R150). -/
def State.startDwell (s : State) (i : LinkId) : State :=
  let l := s.link i
  if l.state = .scan ∧ s.candidates i ≠ [] then s.setLink i { l with dwell := some l.dwellMicros } else s

/-- START (R196). -/
def startRule (q : Option Request) (_ : List Byte) (s : State) : State × Reply :=
  match q with
  | some .start =>
    if s.runState = .running then (s, .refusal .wrongState)
    else
      let t := slotIds.foldl State.startDwell { s with runState := .running }
      (t, .ok (octets 4 t.clock ++ octets 2 t.live.zone ++ octets 2 t.bank.presentZone
        ++ octets 1 t.coverage.mode.code ++ t.limits.octets))
  | _ => (s, .refusal .badField)

def execStart (s : State) : Outcome := .next (s.serve .start startRule)

/-! ## Limits (R197) -/

/-- A value replaced by the nearest bound of its range. -/
def clamp (low high v : Nat) : Nat := max low (min v high)

/-- SET_LIMITS: all five replaced together, each clamped, with a flag for each that was (R197). The answer carries the
five values first and the five flags behind them, where R197's words also allow value and flag in turn (DEDUCED,
notes/assumptions/9.md). -/
def setLimitsRule (q : Option Request) (_ : List Byte) (s : State) : State × Reply :=
  match q with
  | some (.setLimits probation idle linger hold quiet) =>
    let l : Limits :=
      { probation := clamp 5 120 probation, idle := clamp 60 86400 idle, linger := clamp 0 600 linger
        hold := clamp 1 2000 hold, quiet := QuietTime.ofCode quiet }
    ({ s with limits := l },
      .ok (l.octets ++ flagField (l.probation ≠ probation) ++ flagField (l.idle ≠ idle)
        ++ flagField (l.linger ≠ linger) ++ flagField (l.hold ≠ hold) ++ flagField (3 < quiet)))
  | _ => (s, .refusal .badField)

def execSetLimits (s : State) : Outcome := .next (s.serve .setLimits setLimitsRule)

/-! ## READ_STATUS (R199) -/

/-- A slot and the zone code it holds, or none for both. -/
def State.slotAndZone (s : State) (role : Role) : List Byte :=
  optSlot (s.slotIn role) ++ optOctets 2 (s.zoneIn role)

/-- The state and route count of a link slot in READ_STATUS. -/
def State.linkStatus (s : State) (i : LinkId) : List Byte :=
  octets 1 (s.link i).state.code ++ octets 2 (s.store.routeCounts.get i)

/-- The fields of a status report (R199). -/
def State.statusFields (s : State) : List Byte :=
  octets 1 s.runState.code ++ octets 4 s.clock ++ octets 2 s.bank.presentZone
    ++ octets 1 s.liveSlot.val ++ octets 2 s.live.zone ++ s.slotAndZone .grace ++ s.slotAndZone .staged
    ++ optOctets 4 s.bank.graceDeadline
    ++ octets 1 s.coverage.mode.code ++ octets 1 s.coverage.ceiling.code
    ++ slotIds.flatMap s.linkStatus
    ++ octets 1 (setOctet s.migration.lost) ++ optSlot s.migration.draining
    ++ (match s.migration.walk with
        | some w => octets 1 w.kind.code ++ handleOctets w.cursor
        | none => octets 1 0 ++ octets 2 0)
    ++ octets 2 s.migration.parkedTotal ++ octets 1 s.hold.state.code ++ octets 2 s.store.freeCount

/-- READ_STATUS (R199). -/
def readStatusRule (q : Option Request) (_ : List Byte) (s : State) : State × Reply :=
  match q with
  | some .readStatus => (s, .ok s.statusFields)
  | _ => (s, .refusal .badField)

def execReadStatus (s : State) : Outcome := .next (s.serve .readStatus readStatusRule)

/-! ## CLEAR_VOYAGE (R27, R130, R173, R198) -/

/-- The store after CLEAR_VOYAGE (R27). -/
def Store.cleared : Store :=
  { contexts := [], index := [], probation := [], settlement := [], freeCount := Config.contextCount
    routeCounts := Four.all 0 }

/-- CLEAR_VOYAGE: the store and the Migration Engine reset, and a DARKENING mode becomes DARK (R27, R130, R173). -/
def State.clearVoyage (s : State) : State :=
  let t := { s with store := Store.cleared, migration := Migration.initial }
  if s.coverage.mode = .darkening then t.setMode .dark else t

/-- CLEAR_VOYAGE (R198). -/
def clearVoyageRule (q : Option Request) (_ : List Byte) (s : State) : State × Reply :=
  match q with
  | some .clearVoyage =>
    let t := s.clearVoyage
    (t, .ok (octets 2 (s.store.contexts.countP (fun e => e.2.state ≠ .free))
      ++ octets 2 (s.store.contexts.countP (fun e => e.2.state = .linger)) ++ octets 2 t.store.freeCount))
  | _ => (s, .refusal .badField)

def execClearVoyage (s : State) : Outcome := .next (s.serve .clearVoyage clearVoyageRule)

end Sys2Proof.Machine
end

