-- ==== Sys2Proof/Machine/Dispatch.lean ====
section
/-! DEFINITION. The meaning of each command: one arm for each row of the opcode table. -/

namespace Sys2Proof.Machine

def exec (i : Instr) (s : State) : Host.Outcome State Fault Refusal :=
  match i with
  | .powerOn => Sys2Proof.Machine.execPowerOn s
  | .resetLine => Sys2Proof.Machine.execResetLine s
  | .messageArrival octets => Sys2Proof.Machine.execMessageArrival octets s
  | .unknownRequest => Sys2Proof.Machine.execUnknownRequest s
  | .attach => Sys2Proof.Machine.execAttach s
  | .lookup => Sys2Proof.Machine.execLookup s
  | .lookupHandle => Sys2Proof.Machine.execLookupHandle s
  | .openBearer => Sys2Proof.Machine.execOpenBearer s
  | .closeBearer => Sys2Proof.Machine.execCloseBearer s
  | .detach => Sys2Proof.Machine.execDetach s
  | .retire => Sys2Proof.Machine.execRetire s
  | .admitContext => Sys2Proof.Machine.execAdmitContext s
  | .refuse => Sys2Proof.Machine.execRefuse s
  | .nextProbation => Sys2Proof.Machine.execNextProbation s
  | .nextSettlement => Sys2Proof.Machine.execNextSettlement s
  | .settleContext => Sys2Proof.Machine.execSettleContext s
  | .addAllowance => Sys2Proof.Machine.execAddAllowance s
  | .removeAllowance => Sys2Proof.Machine.execRemoveAllowance s
  | .setCap => Sys2Proof.Machine.execSetCap s
  | .setPlan => Sys2Proof.Machine.execSetPlan s
  | .reportUsage => Sys2Proof.Machine.execReportUsage s
  | .holdStore => Sys2Proof.Machine.execHoldStore s
  | .holdGrant => Sys2Proof.Machine.execHoldGrant s
  | .releaseStore => Sys2Proof.Machine.execReleaseStore s
  | .holdTimerExpiry => Sys2Proof.Machine.execHoldTimerExpiry s
  | .periodBoundary => Sys2Proof.Machine.execPeriodBoundary s
  | .sweepVisit => Sys2Proof.Machine.execSweepVisit s
  | .openProfile => Sys2Proof.Machine.execOpenProfile s
  | .writeProfileHeader => Sys2Proof.Machine.execWriteProfileHeader s
  | .writeTariffRow => Sys2Proof.Machine.execWriteTariffRow s
  | .writeCandidates => Sys2Proof.Machine.execWriteCandidates s
  | .readProfile => Sys2Proof.Machine.execReadProfile s
  | .discardProfile => Sys2Proof.Machine.execDiscardProfile s
  | .stageProfile => Sys2Proof.Machine.execStageProfile s
  | .enterZone => Sys2Proof.Machine.execEnterZone s
  | .graceExpiry => Sys2Proof.Machine.execGraceExpiry s
  | .setCeiling => Sys2Proof.Machine.execSetCeiling s
  | .configureLink => Sys2Proof.Machine.execConfigureLink s
  | .probeResult => Sys2Proof.Machine.execProbeResult s
  | .dwellExpiry slot => Sys2Proof.Machine.execDwellExpiry slot s
  | .trackMonitorExpiry slot => Sys2Proof.Machine.execTrackMonitorExpiry slot s
  | .carryMonitorExpiry slot => Sys2Proof.Machine.execCarryMonitorExpiry slot s
  | .openLink => Sys2Proof.Machine.execOpenLink s
  | .closeLink => Sys2Proof.Machine.execCloseLink s
  | .setRoute => Sys2Proof.Machine.execSetRoute s
  | .clearRoute => Sys2Proof.Machine.execClearRoute s
  | .readRoute => Sys2Proof.Machine.execReadRoute s
  | .shift => Sys2Proof.Machine.execShift s
  | .abortShift => Sys2Proof.Machine.execAbortShift s
  | .failoverStep => Sys2Proof.Machine.execFailoverStep s
  | .unparkStep => Sys2Proof.Machine.execUnparkStep s
  | .shiftStep => Sys2Proof.Machine.execShiftStep s
  | .darkStep => Sys2Proof.Machine.execDarkStep s
  | .configureRequester => Sys2Proof.Machine.execConfigureRequester s
  | .readEvents => Sys2Proof.Machine.execReadEvents s
  | .setEventMask => Sys2Proof.Machine.execSetEventMask s
  | .ackEvents => Sys2Proof.Machine.execAckEvents s
  | .quietTimerExpiry => Sys2Proof.Machine.execQuietTimerExpiry s
  | .setLimits => Sys2Proof.Machine.execSetLimits s
  | .start => Sys2Proof.Machine.execStart s
  | .readStatus => Sys2Proof.Machine.execReadStatus s
  | .clearVoyage => Sys2Proof.Machine.execClearVoyage s
  | .resetRelease => Sys2Proof.Machine.execResetRelease s

end Sys2Proof.Machine
end

