-- ==== Sys2Proof/Decode.lean ====
section
/-! DEFINITION. The command a table word spells. No row of spec/opcode_table.json gives bits (every row's "fields"
is empty and none has a "fixed" pattern), so no word spells a command. The octets of a message are read in
Machine/Operands.lean. -/

namespace Sys2Proof

/-- No row of the opcode table gives bits: every word is refused. -/
def decodeTableWord (_nbits _w : Nat) : Option Instr := none

end Sys2Proof
end

