-- ==== Sys2Proof/Machine/Timers.lean ====
section
/-! DEFINITION. Time that passes where no command waits: every running timer's remaining time falls, and no timer
expires by it, since an expiry is a command of its own (DESIGN CHOICE, notes/assumptions/3.md). -/

namespace Sys2Proof.Machine

/-- A running timer's remaining time less the time that passes, not below 0; a stopped timer stays stopped. -/
def elapse (t : Timer) (micros : Nat) : Timer := t.map (· - micros)

/-- The three timers of a link slot as time passes. -/
def LinkSlot.elapse (l : LinkSlot) (micros : Nat) : LinkSlot :=
  { l with
    dwell := Machine.elapse l.dwell micros
    trackMonitor := Machine.elapse l.trackMonitor micros
    carryMonitor := Machine.elapse l.carryMonitor micros }

/-- An idle step: the hold timer, the link timers, the quiet timer and the time that the Request Port lets pass after
a reset all run on by one idle time (DESIGN CHOICE, notes/assumptions/3.md). -/
def State.tick (s : State) : State :=
  { s with
    hold := { s.hold with timer := elapse s.hold.timer Config.tickMicros }
    links := s.links.map (fun l => l.elapse Config.tickMicros)
    port := { s.port with settle := s.port.settle - Config.tickMicros }
    events := { s.events with quiet := elapse s.events.quiet Config.tickMicros } }

/-- The state with a command put at the front of the queue of commands that wait, where a table word spells one. -/
def State.placeWord (s : State) (nbits w : Nat) : State :=
  match decodeTableWord nbits w with
  | some c => { s with pending := c :: s.pending }
  | none => s

end Sys2Proof.Machine
end

