-- ==== Sys2Proof/Safety.lean ====
section
/-! DEFINITION. The terms that claims use: the command of a request kind, a request that the part is to serve now, and
the invariants of the blocks. -/

namespace Sys2Proof.Machine

/-! ## Requests in service -/

/-- The command that is the service of a request of a kind (R179). -/
def Kind.command : Kind → Instr
  | .attach => .attach
  | .lookup => .lookup
  | .lookupHandle => .lookupHandle
  | .openBearer => .openBearer
  | .closeBearer => .closeBearer
  | .detach => .detach
  | .retire => .retire
  | .admitContext => .admitContext
  | .refuse => .refuse
  | .nextProbation => .nextProbation
  | .nextSettlement => .nextSettlement
  | .settleContext => .settleContext
  | .addAllowance => .addAllowance
  | .removeAllowance => .removeAllowance
  | .setCap => .setCap
  | .setPlan => .setPlan
  | .reportUsage => .reportUsage
  | .holdStore => .holdStore
  | .releaseStore => .releaseStore
  | .openProfile => .openProfile
  | .writeProfileHeader => .writeProfileHeader
  | .writeTariffRow => .writeTariffRow
  | .writeCandidates => .writeCandidates
  | .readProfile => .readProfile
  | .discardProfile => .discardProfile
  | .stageProfile => .stageProfile
  | .enterZone => .enterZone
  | .setCeiling => .setCeiling
  | .configureLink => .configureLink
  | .probeResult => .probeResult
  | .openLink => .openLink
  | .closeLink => .closeLink
  | .setRoute => .setRoute
  | .clearRoute => .clearRoute
  | .readRoute => .readRoute
  | .shift => .shift
  | .abortShift => .abortShift
  | .configureRequester => .configureRequester
  | .readEvents => .readEvents
  | .setEventMask => .setEventMask
  | .ackEvents => .ackEvents
  | .setLimits => .setLimits
  | .start => .start
  | .readStatus => .readStatus
  | .clearVoyage => .clearVoyage

/-- The part is to serve request `q` now: the Request Engine is SERVING the message `m` of requester `r`, the message
passes checks 1 to 3 of R182, and its body reads as `q`. Which bodies do is `Obligations.RequestBodyReadsBack`. -/
abbrev State.Serves (s : State) (r : RequesterId) (m : Message) (q : Request) : Prop :=
  s.inService = some (r, m) ∧ s.portRefusal r m = none ∧ m.kind.toNat = q.kind.code ∧ q.kind.read m.body = some q

/-! ## Terms and voice accounts -/

/-- A context whose terms may be changed and whose reports are taken: IDLE, CARRYING, PARKED, or LINGER with linger open
(R59, R73). -/
abbrev Context.termsOpen (c : Context) : Prop :=
  c.state = .idle ∨ c.state = .carrying ∨ c.state = .parked ∨ (c.state = .linger ∧ c.lingerOpen = true)

/-- A voice record after the reports rated against it, with the voice money charged and the sum of priced seconds times
the price applied (R88). -/
structure VoiceAccount where
  record : VoiceRecord
  money : Nat
  due : Nat
  deriving DecidableEq, Repr

/-- Reports rated one after the other against one voice record, each with its tariff row, the allowances it finds and
its voice seconds (R88). -/
def voiceAccount : VoiceRecord → List (TariffRow × List Allowance × Nat) → VoiceAccount
  | v, [] => ⟨v, 0, 0⟩
  | v, (row, allowances, seconds) :: rest =>
    let stage := voiceStage row allowances (some v) seconds
    let behind := voiceAccount (stage.record.getD v) rest
    { behind with money := stage.money + behind.money, due := stage.priced * stage.price + behind.due }

/-! ## The Context Store -/

/-- An allowance's balance is above zero and within the maximum of its kind (R56). -/
def Allowance.ok (a : Allowance) : Bool := decide (1 ≤ a.balance) && decide (a.balance ≤ a.kind.maximum)

/-- The fields of R3's table, by state, and the bearers of R43 and R3. -/
def Context.fieldsOk (c : Context) : Bool :=
  match c.state with
  | .free => c = Context.free
  | .probation =>
    c.identity.isSome && c.route.isNone && c.deadline.isSome && !c.lingerOpen && !c.voiceOpen && !c.dataOpen
      && c.plan = 0 && c.cap = 0 && c.policy = .bar && c.overrun = 0 && !c.barred && !c.slow && c.allowances.isEmpty
      && c.remainder = 0 && c.voice.isNone
  | .idle =>
    c.identity.isSome && c.route.isSome && c.deadline.isSome && !c.handed && !c.lingerOpen && !c.voiceOpen
      && !c.dataOpen
  | .carrying =>
    c.identity.isSome && c.route.isSome && c.deadline.isNone && !c.handed && !c.lingerOpen
      && (c.voiceOpen || c.dataOpen)
  | .parked => c.identity.isSome && c.route.isNone && c.deadline.isSome && !c.handed && !c.lingerOpen
  | .linger =>
    c.identity.isSome && c.route.isNone && c.deadline.isSome = c.lingerOpen && !c.handed && !c.voiceOpen
      && !c.dataOpen

/-- A voice record within its ranges (R1). -/
def VoiceRecord.ok (v : VoiceRecord) : Bool :=
  decide (v.elapsed ≤ Config.maxVoice) && decide (v.billed ≤ Config.maxVoice) && decide (v.fraction < 60)

/-- A context is as R1, R3, R43, R56 and R64 say: its fields by its state, at most four allowances with distinct tags,
the overrun within the cap, and on a barred context no bearer but an emergency voice bearer. -/
def Context.ok (c : Context) : Bool :=
  c.fieldsOk && decide (c.overrun ≤ c.cap) && decide (c.cap ≤ Config.maxCap)
    && decide (c.allowances.length ≤ Config.allowanceCount) && decide (c.allowances.map (·.tag)).Nodup
    && c.allowances.all Allowance.ok && (!c.voiceEmergency || c.voiceOpen)
    && (!c.barred || (!c.dataOpen && (!c.voiceOpen || c.voiceEmergency)))
    && (match c.voice with | some v => v.ok | none => true)

/-- The handles in ascending order. -/
def handles : List Handle := List.finRange 2048

/-- The store is consistent: the record table has its canonical form, every context is as its rules say, and the
Identity Index (R5), the two queues (R32), the free handle count (R2), the route counts (R157) and the parked total
(R158) are those of the contexts. -/
structure StoreInv (s : State) : Prop where
  table : contextsWf s.store.contexts = true
  contexts : ∀ h, (s.ctx h).ok = true
  index : ∀ i h, (i, h) ∈ s.store.index ↔ ((s.ctx h).state.indexed = true ∧ (s.ctx h).identity = some i)
  indexOnce : (s.store.index.map (·.1)).Nodup
  probation : ∀ h, h ∈ s.store.probation ↔ (s.ctx h).state = .probation
  probationOnce : s.store.probation.Nodup
  settlement : ∀ h, h ∈ s.store.settlement ↔ (s.ctx h).state = .linger
  settlementOnce : s.store.settlement.Nodup
  free : s.store.freeCount = handles.countP (fun h => decide ((s.ctx h).state = .free))
  routes : ∀ i, s.store.routeCounts.get i = handles.countP (fun h => decide ((s.ctx h).route = some i))
  parked : s.migration.parkedTotal = handles.countP (fun h => decide ((s.ctx h).state = .parked))

/-! ## The Profile Bank -/

/-- A tariff row that is written is within the ranges of R78. -/
def TariffRow.ok (r : TariffRow) : Bool :=
  !r.written || (decide (256 ≤ r.blockSize) && decide (r.blockSize ≤ 1048576) && decide (1 ≤ r.increment)
    && decide (r.increment ≤ 60) && decide (r.minimum ≤ 300))

/-- The roles and zone codes of the profile slots (R99, R112), the grace deadline (R101), and the rows of profiles that
are or were LIVE or will be (R78). -/
structure BankInv (b : Bank) : Prop where
  live : ∃ i, (b.slots.get i).role = .live
  once : ∀ i j, (b.slots.get i).role ≠ .free → (b.slots.get i).role = (b.slots.get j).role → i = j
  liveZone : ∀ i j, (b.slots.get i).role = .live → (b.slots.get j).role = .staged ∨ (b.slots.get j).role = .grace →
    (b.slots.get j).zone ≠ (b.slots.get i).zone
  stagedZone : ∀ i j, (b.slots.get i).role = .staged → (b.slots.get j).role = .grace →
    (b.slots.get j).zone ≠ (b.slots.get i).zone
  deadline : b.graceDeadline.isSome = true ↔ ∃ i, (b.slots.get i).role = .grace
  written : ∀ i, (b.slots.get i).role = .live ∨ (b.slots.get i).role = .staged ∨ (b.slots.get i).role = .grace →
    (b.slots.get i).rowsWritten = 16
  rows : ∀ i j, ((b.slots.get i).rows.get j).ok = true

/-! ## Coverage Control -/

/-- How loud a mode is; DARKENING and DARK are equally quiet (R119). -/
def Mode.loudness : Mode → Nat
  | .serve => 2
  | .quiet => 1
  | .darkening => 0
  | .dark => 0

/-- How loud a permit or ceiling is (R119). -/
def Permit.loudness : Permit → Nat
  | .serve => 2
  | .quiet => 1
  | .dark => 0

/-- The coverage mode is never louder than the LIVE profile's permit, nor than the master ceiling (R120). -/
def CoverageInv (s : State) : Prop :=
  s.coverage.mode.loudness ≤ s.live.permit.loudness ∧ s.coverage.mode.loudness ≤ s.coverage.ceiling.loudness

/-- No bearer of a context is open. -/
def Context.silent (c : Context) : Prop := c.voiceOpen = false ∧ c.dataOpen = false

/-- The number of places in which a DARK walk stands: in progress, suspended or pending. -/
def Migration.darkPlaces (m : Migration) : Nat :=
  (if m.walk.map (·.kind) = some .dark then 1 else 0) + (if m.suspended.map (·.kind) = some .dark then 1 else 0)
    + (if m.orders.dark then 1 else 0)

/-- A DARK walk stands in exactly one place while the mode is DARKENING and in none otherwise, it leaves no bearer
behind its cursor, and while the mode is DARK no context has an open bearer (R43, R127, R129). A walk is suspended
only while a FAILOVER walk is in progress (R164). -/
structure DarkInv (s : State) : Prop where
  place : s.migration.darkPlaces = if s.coverage.mode = .darkening then 1 else 0
  behind : ∀ w, s.migration.walk = some w ∨ s.migration.suspended = some w → w.kind = .dark →
    w.endMark = 0 ∧ ∀ h, h < w.cursor → (s.ctx h).silent
  dark : s.coverage.mode = .dark → ∀ h, (s.ctx h).silent
  suspended : ∀ w, s.migration.suspended = some w →
    w.kind ≠ .failover ∧ s.migration.walk.map (·.kind) = some .failover

/-! ## The Link Supervisor -/

/-- A slot's settings are within the ranges of R132. -/
def LinkSlot.settingsOk (l : LinkSlot) : Bool :=
  decide (l.satOperator ≤ Config.maxCode) && decide (1 ≤ l.scanDwell) && decide (l.scanDwell ≤ 255)
    && decide (1 ≤ l.trackTime) && decide (l.trackTime ≤ 255) && decide (1 ≤ l.f1) && decide (l.f1 ≤ 255)
    && decide (1 ≤ l.f2) && decide (l.f2 ≤ 255) && decide (l.demoteThreshold ≤ 63) && decide (1 ≤ l.demoteCount)
    && decide (l.demoteCount ≤ 15)

/-- The link state of a slot by the state it is in, given the slot's candidate list and the run state: the timers of
R136 and R150, the tracked operator, last quality and demote counter of R132, and the cursor of R138. -/
def LinkSlot.stateOk (l : LinkSlot) (list : List Nat) (run : RunState) : Bool :=
  match l.state with
  | .off =>
    l.cursor = 0 && l.tracked.isNone && l.quality.isNone && l.demoteCounter = 0 && l.dwell.isNone
      && l.trackMonitor.isNone && l.carryMonitor.isNone
  | .scan =>
    l.kind ≠ .unused && l.tracked.isNone && l.quality.isNone && l.demoteCounter = 0
      && l.dwell.isSome = (decide (list ≠ []) && decide (run = .running)) && l.trackMonitor.isNone
      && l.carryMonitor.isNone && (decide (l.cursor = 0) || decide (l.cursor < list.length))
  | .track =>
    l.kind ≠ .unused && l.tracked.isSome && l.quality.isSome && l.demoteCounter = 0 && l.dwell.isNone
      && l.trackMonitor.isSome && l.carryMonitor.isNone
  | .carry =>
    l.kind ≠ .unused && l.tracked.isSome && l.quality.isSome && decide (l.demoteCounter ≤ 14) && l.dwell.isNone
      && l.trackMonitor.isNone && l.carryMonitor.isSome

/-- Every link slot is as its rules say. -/
def LinkInv (s : State) : Prop :=
  ∀ i, (s.link i).settingsOk = true ∧ (s.link i).stateOk (s.candidates i) s.runState = true

/-! ## Routes and the lost set -/

/-- The handles that a walk has passed since its end mark was set: those met on the way up from the end mark to the
cursor, past 2047 where the cursor has wrapped. -/
def Walk.passed (w : Walk) (h : Handle) : Prop := h - w.endMark < w.cursor - w.endMark

/-- Every routed context rides a slot that is in CARRY or in the lost set (R159), with what keeps it so: a slot in
CARRY is not lost, a lost slot has its FAILOVER walk in progress or pending, that walk leaves no context on a lost slot
at a handle it has passed since the last join (R166), and a SHIFT's to-slot is in CARRY (R169, R171). -/
structure RouteInv (s : State) : Prop where
  routed : ∀ h i, (s.ctx h).routed = true → (s.ctx h).route = some i → (s.link i).state = .carry ∨ s.isLost i = true
  carry : ∀ i, (s.link i).state = .carry → s.isLost i = false
  walk : ∀ i, s.isLost i = true →
    s.migration.walk.map (·.kind) = some .failover ∨ s.migration.orders.failover = true
  passed : ∀ w, s.migration.walk = some w → w.kind = .failover → ∀ h i, w.passed h → (s.ctx h).routed = true →
    (s.ctx h).route = some i → s.isLost i = false
  suspended : ∀ w, s.migration.suspended = some w → w.kind ≠ .failover
  shift : ∀ r, s.migration.shift = some r → (s.link r.dst).state = .carry

/-! ## The Store Arbiter and the Request Engine -/

/-- The arbiter is HELD exactly while the hold is, is granted only to a contender that contends, and is IDLE only where
none does (R18, R21); an IDLE engine has no eligible head, and the request an engine holds is a queue's head (R177,
R179, R180); the engine whose request has the grant is SERVING (R179), and a request that touches a context is served
under that grant, or for requester 0 under the hold (R20, R22). -/
structure ArbiterInv (s : State) : Prop where
  held : s.arbiter = .held ↔ s.hold.state = .held
  granted : ∀ c, s.arbiter = .granted c → s.contends c = true
  idle : s.arbiter = .idle → ∀ c, s.contends c = false
  engineIdle : s.port.engine = .idle → ∀ r, s.headEligible r = false
  engineHolds : ∀ r, s.port.engine = .awaitingGrant r ∨ s.port.engine = .serving r → (s.entry r).queue ≠ []
  grantServes : s.arbiter = .granted .request → ∃ r, s.port.engine = .serving r
  engineServes : ∀ r m, s.port.engine = .serving r → (s.entry r).queue.head? = some m → s.forStore r m = true →
    s.arbiter = .granted .request ∨ (r = 0 ∧ s.hold.state = .held)

/-! ## The Event Set -/

/-- What R194 makes the attention line active by: the quiet timer is stopped and some event is both pending and
unmasked. -/
abbrev EventSet.calls (e : EventSet) : Prop := e.quiet = none ∧ e.pendingSet &&& ~~~e.mask ≠ 0

/-- The last answer sent is an OK to an ACK_EVENTS, whose kind code is 74. -/
def State.lastAcked (s : State) : Prop :=
  ∃ a, s.port.sent.getLast? = some a ∧ a.kind.toNat = 74 ∧ a.status = .ok

/-- The attention line is active only while R194's condition holds, and while it holds the line is active, but for the
end of an ACK_EVENTS, where the last answer sent is that request's (R194; notes/assumptions/11.md). ATTACH_WAITING is
pending exactly while some entry of the Probation Queue is unhanded, SETTLE_WAITING while the Settlement Queue is not
empty and PROFILE_MISSING while the present zone is not the LIVE zone; BACKHAUL_LOST, once it has occurred, is pending
only while no slot is in CARRY (R191). -/
structure EventInv (s : State) : Prop where
  active : s.events.attention = true → s.events.calls
  inactive : s.events.calls → s.events.attention = true ∨ s.lastAcked
  attachWaiting : s.isPending .attachWaiting = true ↔ ∃ h ∈ s.store.probation, (s.ctx h).handed = false
  settleWaiting : s.isPending .settleWaiting = true ↔ s.store.settlement ≠ []
  profileMissing : s.isPending .profileMissing = true ↔ s.bank.presentZone ≠ s.live.zone
  backhaulLost : s.isPending .backhaulLost = true → ∀ i, (s.link i).state ≠ .carry

end Sys2Proof.Machine
end

