-- ==== Sys2Proof/Certificates/Slice0/Obligations.lean ====
section
/-! DEFINITION. The statements for the provers: what the commands do, rule by rule, and the invariants that every step
keeps. The state after a request is given as the end of its service (`finish`) of an explicit state and answer;
`Obligations.EndOfService` and `Obligations.EventConcludes` say what that end changes and what it leaves, and
`Obligations.ContextWritten` says it of a context's change (`commit`). -/

open Sys2Proof Sys2Proof.Machine

/-! ## Steps, reset and power -/

/-- A step takes the command at the front of the queue and runs it with the queue's rest. -/
def Obligations.StepTakesFrontCommand : Prop :=
  ∀ (c : Instr) (rest : List Instr) (s : State),
    step { s with pending := c :: rest } = exec c { s with pending := rest }

/-- With no command waiting, time passes: every running timer loses 50 µs, not below 0, and so does the time in which
messages are lost after a reset; nothing else changes. This is the model's choice (notes/assumptions/3.md). -/
def Obligations.IdleStepLetsTimePass : Prop :=
  ∀ s : State, s.pending = [] →
    step s = .next
      { s with
        hold := { s.hold with timer := s.hold.timer.map (· - 50) }
        links := s.links.map (fun l =>
          { l with
            dwell := l.dwell.map (· - 50), trackMonitor := l.trackMonitor.map (· - 50)
            carryMonitor := l.carryMonitor.map (· - 50) })
        port := { s.port with settle := s.port.settle - 50 }
        events := { s.events with quiet := s.events.quiet.map (· - 50) } }

/-- Every command answers a next state in every state, and leaves the queue of commands that wait as it is. The queue is
the model's own, and that no command faults is its reading (notes/assumptions/4.md and 13.md). -/
def Obligations.EveryCommandGoesOn : Prop :=
  ∀ (c : Instr) (s : State), ∃ t, exec c s = .next t ∧ t.pending = s.pending

/-- The state after reset: the values of R195's table, field by field as the rules it names give them. The model's own
fields, the time left in which messages are lost (notes/assumptions/6.md) and the transcript of answers
(notes/assumptions/5.md), are not in it. -/
def Obligations.ResetState : Prop :=
  let bank := State.reset.bank
  let profile := fun (role : Role) (row : TariffRow) => (⟨role, 0, .dark, ⟨false, false, false, false⟩,
    ⟨[], [], [], []⟩, 0, 0, Vector.replicate 16 row⟩ : ProfileSlot)
  State.reset.runState = .configuring ∧ State.reset.clock = 0
    ∧ (∀ h, State.reset.ctx h =
        { state := .free, identity := none, home := 0, cell := 0, route := none, plan := 0, cap := 0, policy := .bar
          overrun := 0, barred := false, slow := false, allowances := [], remainder := 0, voiceOpen := false
          voiceEmergency := false, dataOpen := false, voice := none, deadline := none, handed := false
          lingerOpen := false })
    ∧ State.reset.store.freeCount = 2048
    ∧ State.reset.store.index = [] ∧ State.reset.store.probation = [] ∧ State.reset.store.settlement = []
    ∧ (∀ i, State.reset.store.routeCounts.get i = 0)
    ∧ State.reset.sweep = ⟨.waiting, 0, false⟩ ∧ State.reset.arbiter = .idle ∧ State.reset.hold = ⟨.notHeld, none, false⟩
    ∧ bank.slots.get 0 = profile .live ⟨1024, 0, 0, 1, 0, true⟩
    ∧ (∀ i, i ≠ 0 → bank.slots.get i = profile .free ⟨0, 0, 0, 0, 0, false⟩)
    ∧ bank.presentZone = 0 ∧ bank.graceDeadline = none
    ∧ State.reset.coverage = ⟨.dark, .serve⟩
    ∧ (∀ i, State.reset.link i =
        { kind := .unused, satOperator := 0, scanDwell := 30, trackTime := 20, carryBase := .ms100, f1 := 10, f2 := 5
          demoteThreshold := 12, demoteCount := 3, state := .off, cursor := 0, tracked := none, quality := none
          demoteCounter := 0, dwell := none, trackMonitor := none, carryMonitor := none })
    ∧ State.reset.routes = ⟨[], [0, 1, 2, 3]⟩
    ∧ State.reset.migration =
        { walk := none, suspended := none, orders := ⟨false, false, false, false⟩, shift := none, parkedCount := 0
          lost := ⟨false, false, false, false⟩, draining := none, parkedTotal := 0 }
    ∧ State.reset.entry 0 = ⟨.master, 7, []⟩ ∧ (∀ r, r ≠ 0 → State.reset.entry r = ⟨.unused, 0, []⟩)
    ∧ State.reset.port.engine = .idle
    ∧ State.reset.events.pendingSet = 0 ∧ (∀ e : Event, State.reset.events.mask.getLsbD e.num = true)
    ∧ State.reset.events.details =
        { retiredHandle := 0, retiredCause := none, spentHandle := 0, spentTag := 0, capHandle := 0, foundSlot := none
          lostSlot := none, lapsedSlot := none, weakSlot := none, shiftMoved := 0, abortMoved := 0, failoverParked := 0
          graceZone := 0, coverageMode := none, missingZone := 0 }
    ∧ State.reset.events.quiet = none ∧ State.reset.events.attention = false
    ∧ State.reset.limits = ⟨30, 3600, 120, 250, .ms1⟩

/-- POWER_ON and the assertion of RESET_N put every block into its initial state from any state, and raise no event
and answer no request; the release of RESET_N lets messages be received after 2 ms. That the queue of commands and the
transcript of answers stay is the model's choice (notes/assumptions/4.md and 5.md). -/
def Obligations.PowerOnAndReset : Prop :=
  ∀ s : State,
    exec .powerOn s = .next
        { State.reset with
          pending := s.pending, port := { State.reset.port with settle := 2000, sent := s.port.sent } }
    ∧ exec .resetLine s = .next
        { State.reset with
          pending := s.pending, port := { State.reset.port with resetAsserted := true, sent := s.port.sent } }
    ∧ (s.port.resetAsserted = true →
        exec .resetRelease s = .next { s with port := { s.port with resetAsserted := false, settle := 2000 } })

/-! ## The Request Port -/

/-- A message read from the octets it is written as: the requester number, the kind, the tag, and as many body octets
as its length octet says, whatever octets follow; and a code is that of a kind exactly where the catalogue gives it to
that kind. -/
def Obligations.MessageReadsBack : Prop :=
  (∀ (r : RequesterId) (m : Message) (rest : List Byte), m.body.length ≤ 255 →
    readMessage (writeMessage r m ++ rest) = some (r, m, rest))
  ∧ ∀ (n : Nat) (k : Kind), Kind.ofCode n = some k ↔ n = k.code

/-- A body of a kind reads as a request exactly where every field of that request is in its range and the body is what
the request is laid out as, but for what is not read: a permit or ceiling code other than SERVE's and QUIET's is DARK,
bits 4 to 7 of a set of link slots and the home octets of a DEFAULT target are not read. So every request in range is read
back from its body, and every other body, such as one of another length, is unreadable. That a FAIL's quality is held to
no range but its octet's is the model's reading (notes/assumptions/14.md). -/
def Obligations.RequestBodyReadsBack : Prop :=
  let inRange : Request → Prop := fun
    | .attach i home _ => i ≠ 0 ∧ home ≤ 999999
    | .lookup i => i ≠ 0
    | .detach i => i ≠ 0
    | .retire _ i => i ≠ 0
    | .admitContext _ i _ cap _ => i ≠ 0 ∧ cap ≤ 4294967295
    | .refuse _ i => i ≠ 0
    | .nextSettlement skip => skip ≤ 2047
    | .addAllowance _ .units amount _ => 1 ≤ amount ∧ amount ≤ 4294967295
    | .addAllowance _ .octets amount _ => 1 ≤ amount ∧ amount ≤ 1099511627775
    | .addAllowance _ .seconds amount _ => 1 ≤ amount ∧ amount ≤ 1048575
    | .setCap _ cap _ => cap ≤ 4294967295
    | .reportUsage _ _ zone up down voice => zone ≤ 65535 ∧ up ≤ 16777215 ∧ down ≤ 16777215 ∧ voice ≤ 65535
    | .writeProfileHeader zone _ _ park grace => zone ≤ 65535 ∧ park ≤ 65535 ∧ grace ≤ 65535
    | .writeTariffRow _ _ b pd pv i m => b ≤ 4294967295 ∧ pd ≤ 65535 ∧ pv ≤ 65535 ∧ i ≤ 255 ∧ m ≤ 65535
    | .writeCandidates _ codes => ∀ c ∈ codes, c ≤ 16777215
    | .enterZone zone => 1 ≤ zone ∧ zone ≤ 65535
    | .configureLink _ _ operator dwell track base f1 f2 threshold count => operator ≤ 16777215 ∧ dwell ≤ 255
      ∧ track ≤ 255 ∧ base ≤ 255 ∧ f1 ≤ 255 ∧ f2 ≤ 255 ∧ threshold ≤ 255 ∧ count ≤ 255
    | .probeResult _ success quality operator =>
      (success = true → quality ≤ 63) ∧ quality ≤ 255 ∧ operator ≤ 999999
    | .setRoute target list =>
      (∀ code, target = .home code → code ≤ 999999) ∧ 1 ≤ list.length ∧ list.length ≤ 4 ∧ list.Nodup
    | .clearRoute target => ∀ code, target = .home code → code ≤ 999999
    | .readRoute target => ∀ code, target = .home code → code ≤ 999999
    | .shift src dst => src ≠ dst
    | .configureRequester r cls level => r ≠ 0 ∧ cls ≠ .master ∧ level ≤ 255
    | .setLimits probation idle linger hold quiet =>
      probation ≤ 65535 ∧ idle ≤ 4294967295 ∧ linger ≤ 65535 ∧ hold ≤ 65535 ∧ quiet ≤ 255
    | _ => True
  let permit := fun (code : Byte) => if code = 0#8 ∨ code = 1#8 then code else 3#8
  let target : List Byte → List Byte := fun
    | 1#8 :: _ :: _ :: _ :: rest => 1#8 :: 0#8 :: 0#8 :: 0#8 :: rest
    | body => body
  let asRead : Kind → List Byte → List Byte := fun
    | .writeProfileHeader, z1 :: z0 :: code :: set :: rest => z1 :: z0 :: permit code :: (set &&& 15#8) :: rest
    | .setCeiling, body => body.map permit
    | .setRoute, body => target body
    | .clearRoute, body => target body
    | .readRoute, body => target body
    | _, body => body
  let lengthFits : Kind → Nat → Prop := fun
    | .attach, n => n = 12
    | .lookup, n => n = 8
    | .lookupHandle, n => n = 2
    | .openBearer, n => n = 4
    | .closeBearer, n => n = 3
    | .detach, n => n = 8
    | .retire, n => n = 10
    | .admitContext, n => n = 16
    | .refuse, n => n = 10
    | .nextSettlement, n => n = 2
    | .settleContext, n => n = 2
    | .addAllowance, n => n = 9
    | .removeAllowance, n => n = 3
    | .setCap, n => n = 7
    | .setPlan, n => n = 3
    | .reportUsage, n => n = 13
    | .writeProfileHeader, n => n = 8
    | .writeTariffRow, n => n = 13
    | .writeCandidates, n => n % 3 = 1
    | .readProfile, n => n = 1 ∨ n = 3
    | .discardProfile, n => n = 1
    | .enterZone, n => n = 2
    | .setCeiling, n => n = 1
    | .configureLink, n => n = 12
    | .probeResult, n => n = 6
    | .openLink, n => n = 1
    | .closeLink, n => n = 1
    | .setRoute, n => 5 ≤ n ∧ n ≤ 8
    | .clearRoute, n => n = 4
    | .readRoute, n => n = 4
    | .shift, n => n = 2
    | .configureRequester, n => n = 3
    | .setEventMask, n => n = 3
    | .ackEvents, n => n = 4
    | .setLimits, n => n = 11
    | _, n => n = 0
  ∀ (k : Kind) (body : List Byte),
    (∀ q : Request, k.read body = some q ↔ q.kind = k ∧ inRange q ∧ asRead k body = q.body)
    ∧ (¬lengthFits k body.length → k.read body = none)

/-- A message that arrives is answered DISABLED at level 0, answered BUSY where its queue holds four requests, and
otherwise joins the tail of its requester's queue; while RESET_N is asserted, and for 2 ms after its release, it is
lost. The 2 ms are the model's `settle` (notes/assumptions/6.md), and the engine's choice is made within the arrival
(notes/assumptions/7.md). -/
def Obligations.MessageArrives : Prop :=
  ∀ (s : State) (r : RequesterId) (m : Message), m.body.length ≤ 255 →
    ((s.port.resetAsserted = true ∨ 0 < s.port.settle) → exec (.messageArrival (writeMessage r m)) s = .next s)
    ∧ (s.port.resetAsserted = false → s.port.settle = 0 →
        ((s.entry r).level = 0 →
          exec (.messageArrival (writeMessage r m)) s = .next (s.send ⟨r, m.kind, m.tag, .disabled, []⟩).conclude)
        ∧ ((s.entry r).level ≠ 0 → 4 ≤ (s.entry r).queue.length →
          exec (.messageArrival (writeMessage r m)) s = .next (s.send ⟨r, m.kind, m.tag, .busy, []⟩).conclude)
        ∧ ((s.entry r).level ≠ 0 → (s.entry r).queue.length < 4 →
          exec (.messageArrival (writeMessage r m)) s = .next
            (s.setEntry r { s.entry r with queue := (s.entry r).queue ++ [m] }).conclude))

/-- The checks of R182 in their order, and the reading of the body: an unknown kind, a class that may not send the
kind, a kind not served before START, and a body that cannot be read are refused, and the refusal changes nothing but
what the end of a service changes. A refused PROBE_RESULT that names a slot reports its state and try operator. Which
bodies are unreadable is `Obligations.RequestBodyReadsBack`; that length and ranges are one check, and that a refused
PROBE_RESULT of another length or slot carries no fields, are the model's readings (notes/assumptions/14.md). -/
def Obligations.RefusedBeforeItsRule : Prop :=
  ∀ (s : State) (r : RequesterId) (m : Message), s.inService = some (r, m) →
    ((∀ k : Kind, m.kind.toNat ≠ k.code) →
      exec .unknownRequest s = .next (s.finish r m ⟨.unknownRequest, []⟩))
    ∧ ∀ k : Kind, m.kind.toNat = k.code →
      ((s.entry r).cls.permits k = false → exec k.command s = .next (s.finish r m ⟨.notPermitted, []⟩))
      ∧ ((s.entry r).cls.permits k = true → s.runState = .configuring → k.inConfiguring = false →
          exec k.command s = .next (s.finish r m ⟨.notStarted, []⟩))
      ∧ ((s.entry r).cls.permits k = true → (s.runState = .running ∨ k.inConfiguring = true) →
          k.read m.body = none →
          (k ≠ .probeResult → exec k.command s = .next (s.finish r m ⟨.badField, []⟩))
          ∧ (k = .probeResult →
              (∀ i, probeSlot m.body = some i →
                exec k.command s = .next (s.finish r m
                  ⟨.badField, octets 1 (s.link i).state.code ++ optOctets 3 (s.tryOperator i)⟩))
              ∧ (probeSlot m.body = none → exec k.command s = .next (s.finish r m ⟨.badField, []⟩))))

/-- A command that names a step the part does not take now leaves the part as it stands: a request's that is not in
service, a grant's, a step's or a visit's that the arbiter has not made, and an expiry's whose timer does not run, whose
deadline is not reached or whose track or carry monitor has time left, as one has that a probe result restarted. This is
the model's choice (notes/assumptions/2.md). -/
def Obligations.CommandNotDueWaits : Prop :=
  ∀ s : State,
    (∀ k : Kind, (∀ r m, s.inService = some (r, m) → m.kind.toNat ≠ k.code) → exec k.command s = .next s)
    ∧ ((∀ r m, s.inService = some (r, m) → ∃ k : Kind, m.kind.toNat = k.code) → exec .unknownRequest s = .next s)
    ∧ (s.arbiter ≠ .granted .hold → exec .holdGrant s = .next s)
    ∧ (s.hold.state ≠ .held ∨ s.hold.timer = none → exec .holdTimerExpiry s = .next s)
    ∧ (s.runState = .configuring ∨ 4294967295 ≤ s.clock → exec .periodBoundary s = .next s)
    ∧ (s.arbiter ≠ .granted .sweep → exec .sweepVisit s = .next s)
    ∧ (s.reached s.bank.graceDeadline = false → exec .graceExpiry s = .next s)
    ∧ (∀ i, (s.link i).dwell = none → exec (.dwellExpiry i) s = .next s)
    ∧ (∀ i, (s.link i).trackMonitor ≠ some 0 → exec (.trackMonitorExpiry i) s = .next s)
    ∧ (∀ i, (s.link i).carryMonitor ≠ some 0 → exec (.carryMonitorExpiry i) s = .next s)
    ∧ (s.arbiter ≠ .granted (.walk .failover) → exec .failoverStep s = .next s)
    ∧ (s.arbiter ≠ .granted (.walk .unpark) → exec .unparkStep s = .next s)
    ∧ (s.arbiter ≠ .granted (.walk .shift) → exec .shiftStep s = .next s)
    ∧ (s.arbiter ≠ .granted (.walk .dark) → exec .darkStep s = .next s)
    ∧ (s.events.quiet = none → exec .quietTimerExpiry s = .next s)
    ∧ (s.port.resetAsserted = false → exec .resetRelease s = .next s)

/-- The end of a service is the end of an event (`Obligations.EventConcludes`) at a state given here: exactly one answer
is sent, with the request's requester, kind and tag; the request leaves its queue and no other entry changes; the engine
is IDLE; a hold timer expiry that waited for the answer revokes the hold, and the Migration Engine chooses a walk where
none is in progress; nothing else changes but the arbiter. A grant to the request has ended. An IDLE arbiter has granted
the contender of the highest rank that the service brought, and any other grant stands while its contender contends. That
this is granted within the service, and that a grant stands between steps, are the model's readings
(notes/assumptions/7.md and 8.md). -/
def Obligations.EndOfService : Prop :=
  ∀ (s : State) (r : RequesterId) (m : Message) (reply : Reply),
    let u := s.setEntry r { s.entry r with queue := (s.entry r).queue.tail }
    let due := s.hold.expiryDue = true ∧ s.hold.state = .held
    let ended := fun (c : Contender) => if c = .request then Arbiter.idle else .granted c
    u.entry r = { s.entry r with queue := (s.entry r).queue.tail } ∧ (∀ r', r' ≠ r → u.entry r' = s.entry r')
    ∧ ∃ a : Arbiter,
      s.finish r m reply = State.conclude { s with
        arbiter := a
        hold := if due then ⟨.notHeld, none, false⟩ else s.hold
        migration := if due then
            (match s.migration.walk with | none => s.migration.next false | some _ => s.migration)
          else s.migration
        port := { u.port with
          engine := .idle, sent := s.port.sent ++ [⟨r, m.kind, m.tag, reply.status, reply.body⟩] }
        events := { s.events with
          pendingSet := if due then s.events.pendingSet ||| 4096#17 else s.events.pendingSet } }
      ∧ (s.arbiter = .held → a = .held)
      ∧ (∀ c, s.arbiter = .granted c → s.contends c = true → a = ended c)
      ∧ (s.arbiter ≠ .held → (∀ c, s.arbiter = .granted c → s.contends c = false) →
          (s.hold.state = .held → a = .held)
          ∧ (s.hold.state ≠ .held →
              ((∀ c, s.contends c = false) → a = .idle)
              ∧ ∀ c, s.contends c = true → (∀ c', s.contends c' = true → c' ≠ c → s.rank c < s.rank c') → a = ended c))

/-- The end of every event: an IDLE engine takes the head the ingress arbiter chooses, to await a grant where it
touches a context and no hold is granted, to serve it otherwise; a grant in progress stands while its contender
contends, and otherwise the arbiter is HELD under the hold, granted to the contender of the highest rank, or IDLE where
none contends; the engine whose request has the grant enters SERVING; flags and line follow their conditions. That this
choice is made within the event that makes it possible (notes/assumptions/7.md), and that a granted contender which no
longer contends loses its grant (notes/assumptions/8.md), are the model's readings. -/
def Obligations.EventConcludes : Prop :=
  ∀ s : State,
    let t := s.conclude
    let awaits := fun (r : RequesterId) =>
      if t.arbiter = .granted .request then EngineState.serving r else .awaitingGrant r
    t = { s with
      port := { s.port with engine := t.port.engine }, arbiter := t.arbiter
      events := { s.events with pendingSet := t.events.pendingSet, attention := t.events.attention } }
    ∧ (∀ r, s.port.engine = .serving r → t.port.engine = .serving r)
    ∧ (∀ r, s.port.engine = .awaitingGrant r → t.port.engine = awaits r)
    ∧ (s.port.engine = .idle → s.chooseHead = none → t.port.engine = .idle)
    ∧ (∀ r m, s.port.engine = .idle → s.chooseHead = some r → (s.entry r).queue.head? = some m →
        t.port.engine = if s.forStore r m = true ∧ s.hold.state ≠ .held then awaits r else .serving r)
    ∧ (∀ c, s.arbiter = .granted c → t.contends c = true → t.arbiter = .granted c)
    ∧ ((∀ c, s.arbiter = .granted c → t.contends c = false) → s.hold.state = .held → t.arbiter = .held)
    ∧ ((∀ c, s.arbiter = .granted c → t.contends c = false) → s.hold.state ≠ .held →
        (t.arbiter = .idle ∧ ∀ c, t.contends c = false)
        ∨ ∃ c, t.arbiter = .granted c ∧ t.contends c = true
            ∧ ∀ c', t.contends c' = true → c' ≠ c → t.rank c < t.rank c')
    ∧ (∀ e, t.isPending e = (s.isPending e && !s.clears e))
    ∧ (t.events.attention = true ↔ t.events.quiet = none ∧ t.events.pendingSet &&& ~~~t.events.mask ≠ 0)

/-- The ingress arbiter chooses the eligible head of the highest service level, and among those the one of the lowest
requester number; a head is held back exactly where the hold is HELD, the requester is not requester 0, the kind
touches a context and checks 1 to 3 of R182 would pass. -/
def Obligations.HeadChosen : Prop :=
  ∀ (s : State) (r : RequesterId),
    (s.chooseHead = some r ↔ s.headEligible r = true ∧ ∀ r', r' ≠ r → s.headEligible r' = true →
      (s.entry r').level < (s.entry r).level ∨ ((s.entry r').level = (s.entry r).level ∧ r < r'))
    ∧ (s.headEligible r = true ↔ ∃ m tail, (s.entry r).queue = m :: tail
        ∧ ¬(s.hold.state = .held ∧ r ≠ 0 ∧ s.portRefusal r m = none
            ∧ ∃ k : Kind, m.kind.toNat = k.code ∧ k.touchesContext = true))

/-- CONFIGURE_REQUESTER: the entry takes the class and the level applied, 7 where the level carried is above 7 and 0 for
class NONE; at level 0 every queued request of that requester is answered DISABLED, oldest first, before the OK answer,
and its queue is empty. -/
def Obligations.ConfigureRequesterTaken : Prop :=
  ∀ (s : State) (r : RequesterId) (m : Message) (n : RequesterId) (cls : RequesterClass) (level : Nat),
    s.Serves r m (.configureRequester n cls level) →
    let applied := if cls = .unused then 0 else min level 7
    let dropped := if applied = 0 then (s.entry n).queue else []
    let u := { s with port := { s.port with
      sent := s.port.sent ++ dropped.map (fun d : Message => (⟨n, d.kind, d.tag, .disabled, []⟩ : Answer)) } }
    exec .configureRequester s = .next
      ((u.setEntry n ⟨cls, applied, if applied = 0 then [] else (s.entry n).queue⟩).finish r m
        ⟨.ok, octets 1 n.val ++ octets 1 cls.code ++ octets 1 applied ++ octets 1 (s.entry n).cls.code
          ++ octets 1 (s.entry n).level ++ octets 1 dropped.length⟩)

/-! ## The Context Store and the subscriber lifecycle -/

/-- What a change of one context does: the context at its handle is the new one and every other context is as before;
the Identity Index, the two lifecycle queues, the free handle count, the route counts and the parked total follow the
change; ATTACH_WAITING or SETTLE_WAITING becomes pending where the handle joins that queue; nothing else changes. -/
def Obligations.ContextWritten : Prop :=
  ∀ (s : State) (h : Handle) (c : Context),
    let t := s.commit h c
    let old := s.ctx h
    t = { s with
      store := t.store, migration := { s.migration with parkedTotal := t.migration.parkedTotal }
      events := { s.events with pendingSet := t.events.pendingSet } }
    ∧ t.ctx h = c ∧ (∀ h', h' ≠ h → t.ctx h' = s.ctx h')
    ∧ t.store.index =
        (if old.state.indexed = c.state.indexed then s.store.index
         else if old.state.indexed = true then s.store.index.filter (fun e => e.2 ≠ h)
         else match c.identity with
           | some i => s.store.index ++ [(i, h)]
           | none => s.store.index)
    ∧ t.store.probation =
        (if old.state = .probation ∧ c.state ≠ .probation then s.store.probation.filter (· ≠ h)
         else if old.state ≠ .probation ∧ c.state = .probation then s.store.probation ++ [h]
         else s.store.probation)
    ∧ t.store.settlement =
        (if old.state = .linger ∧ c.state ≠ .linger then s.store.settlement.filter (· ≠ h)
         else if old.state ≠ .linger ∧ c.state = .linger then s.store.settlement ++ [h]
         else s.store.settlement)
    ∧ t.store.freeCount =
        s.store.freeCount - (if old.state = .free ∧ c.state ≠ .free then 1 else 0)
          + (if old.state ≠ .free ∧ c.state = .free then 1 else 0)
    ∧ (∀ i, t.store.routeCounts.get i =
        s.store.routeCounts.get i - (if old.route = some i ∧ c.route ≠ some i then 1 else 0)
          + (if old.route ≠ some i ∧ c.route = some i then 1 else 0))
    ∧ t.migration.parkedTotal =
        s.migration.parkedTotal - (if old.state = .parked ∧ c.state ≠ .parked then 1 else 0)
          + (if old.state ≠ .parked ∧ c.state = .parked then 1 else 0)
    ∧ ∀ e, t.isPending e =
        (s.isPending e || (decide (e = .attachWaiting) && decide (old.state ≠ .probation ∧ c.state = .probation))
          || (decide (e = .settleWaiting) && decide (old.state ≠ .linger ∧ c.state = .linger)))

/-- ATTACH. Of an indexed identity: the cell field takes the request's cell in every coverage mode, an IDLE context's
deadline is renewed, and nothing else of the context changes. Of any other: refused by every mode but SERVE, refused
where no handle is FREE, and otherwise the lowest FREE handle takes a PROBATION context of the request's identity, home
and cell with the probation deadline, its other fields FREE. -/
def Obligations.AttachServed : Prop :=
  ∀ (s : State) (r : RequesterId) (m : Message) (i : Identity) (home : Nat) (cell : Fin 32),
    s.Serves r m (.attach i home cell) →
    (∀ h, s.indexed i = some h →
      exec .attach s = .next
        ((s.commit h { s.ctx h with
            cell := cell
            deadline := if (s.ctx h).state = .idle then some (min (s.clock + s.limits.idle) 4294967295)
              else (s.ctx h).deadline }).finish r m
          ⟨.ok, octets 2 h.val ++ octets 1 (s.ctx h).state.code ++ octets 1 1⟩))
    ∧ (s.indexed i = none → s.coverage.mode ≠ .serve →
        exec .attach s = .next (s.finish r m ⟨.refusedByMode, octets 1 s.coverage.mode.code⟩))
    ∧ (s.indexed i = none → s.coverage.mode = .serve → (∀ h, (s.ctx h).state ≠ .free) →
        exec .attach s = .next (s.finish r m ⟨.full, []⟩))
    ∧ (∀ h, s.indexed i = none → s.coverage.mode = .serve → (s.ctx h).state = .free →
        (∀ h', h' < h → (s.ctx h').state ≠ .free) →
        exec .attach s = .next
          ((s.commit h
            { state := .probation, identity := some i, home := home, cell := cell, route := none, plan := 0, cap := 0
              policy := .bar, overrun := 0, barred := false, slow := false, allowances := [], remainder := 0
              voiceOpen := false, voiceEmergency := false, dataOpen := false, voice := none
              deadline := some (min (s.clock + s.limits.probation) 4294967295), handed := false
              lingerOpen := false }).finish r m
            ⟨.ok, octets 2 h.val ++ octets 1 1 ++ octets 1 0⟩))

/-- LOOKUP and LOOKUP_HANDLE: the fields of R41 for the context found, or NO_CONTEXT; neither changes anything. -/
def Obligations.LookupsServed : Prop :=
  ∀ (s : State) (r : RequesterId) (m : Message),
    let fields := fun (h : Handle) =>
      let c := s.ctx h
      octets 2 h.val ++ octets 1 c.state.code ++ optOctets 1 (c.route.map (·.val)) ++ octets 1 c.cell.val
        ++ octets 1 (flagOctet c.barred) ++ octets 1 (flagOctet c.slow) ++ octets 1 (flagOctet c.voiceOpen)
        ++ octets 1 (flagOctet c.voiceEmergency) ++ octets 1 (flagOctet c.dataOpen)
        ++ octets 1 (flagOctet c.lingerOpen) ++ octets 1 s.coverage.mode.code
    (∀ i, s.Serves r m (.lookup i) →
      (∀ h, s.indexed i = some h → exec .lookup s = .next (s.finish r m ⟨.ok, fields h⟩))
      ∧ (s.indexed i = none → exec .lookup s = .next (s.finish r m ⟨.noContext, []⟩)))
    ∧ (∀ h, s.Serves r m (.lookupHandle h) →
      ((s.ctx h).state ≠ .free → exec .lookupHandle s = .next (s.finish r m ⟨.ok, fields h⟩))
      ∧ ((s.ctx h).state = .free → exec .lookupHandle s = .next (s.finish r m ⟨.noContext, []⟩)))

/-- OPEN_BEARER and CLOSE_BEARER where they are taken. A VOICE bearer opened resets the voice record; an IDLE context
becomes CARRYING with no deadline. A bearer closed keeps the voice record; a CARRYING context left with none becomes
IDLE with the idle deadline. -/
def Obligations.BearersServed : Prop :=
  ∀ (s : State) (r : RequesterId) (m : Message) (h : Handle),
    let c := s.ctx h
    let answer := fun (c : Context) => (⟨.ok, octets 2 h.val ++ octets 1 c.state.code
      ++ octets 1 (flagOctet c.voiceOpen) ++ octets 1 (flagOctet c.voiceEmergency)
      ++ octets 1 (flagOctet c.dataOpen)⟩ : Reply)
    let opened := fun (c : Context) =>
      { c with
        state := .carrying, deadline := if c.state = .idle then none else c.deadline }
    let closed := fun (c : Context) =>
      if c.state = .carrying ∧ c.voiceOpen = false ∧ c.dataOpen = false then
        { c with state := .idle, deadline := some (min (s.clock + s.limits.idle) 4294967295) }
      else c
    (∀ emergency, s.Serves r m (.openBearer h .voice emergency) → (c.state = .idle ∨ c.state = .carrying) →
      (s.coverage.mode = .serve ∨ (s.coverage.mode = .quiet ∧ emergency = true)) →
      (c.barred = false ∨ emergency = true) → c.voiceOpen = false →
      let c' := opened { c with voiceOpen := true, voiceEmergency := emergency, voice := some ⟨0, 0, 0, emergency⟩ }
      exec .openBearer s = .next ((s.commit h c').finish r m (answer c')))
    ∧ (s.Serves r m (.openBearer h .data false) → (c.state = .idle ∨ c.state = .carrying) →
      s.coverage.mode = .serve → c.barred = false → c.dataOpen = false →
      let c' := opened { c with dataOpen := true }
      exec .openBearer s = .next ((s.commit h c').finish r m (answer c')))
    ∧ (s.Serves r m (.closeBearer h .voice) → (c.state = .idle ∨ c.state = .carrying ∨ c.state = .parked) →
      c.voiceOpen = true →
      let c' := closed { c with voiceOpen := false, voiceEmergency := false }
      exec .closeBearer s = .next ((s.commit h c').finish r m (answer c')))
    ∧ (s.Serves r m (.closeBearer h .data) → (c.state = .idle ∨ c.state = .carrying ∨ c.state = .parked) →
      c.dataOpen = true →
      let c' := closed { c with dataOpen := false }
      exec .closeBearer s = .next ((s.commit h c').finish r m (answer c')))

/-- The refusals of OPEN_BEARER in the order of R29 and R44, with the gate of R125, and those of CLOSE_BEARER (R46);
each changes nothing but what the end of a service changes. -/
def Obligations.BearersRefused : Prop :=
  ∀ (s : State) (r : RequesterId) (m : Message) (h : Handle) (kind : BearerKind),
    let c := s.ctx h
    let isOpen := (match kind with | .voice => c.voiceOpen | .data => c.dataOpen)
    (∀ emergency, s.Serves r m (.openBearer h kind emergency) →
      let gate := s.coverage.mode = .serve ∨ (s.coverage.mode = .quiet ∧ kind = .voice ∧ emergency = true)
      let urgent := kind = .voice ∧ emergency = true
      let refused := fun (st : Status) (body : List Byte) => exec .openBearer s = .next (s.finish r m ⟨st, body⟩)
      (c.state = .free → refused .noContext [])
      ∧ (c.state = .probation ∨ c.state = .linger → refused .wrongState [])
      ∧ (c.state = .parked → refused .noRoute [])
      ∧ (c.state = .idle ∨ c.state = .carrying →
          (¬gate → refused .refusedByMode (octets 1 s.coverage.mode.code))
          ∧ (gate → c.barred = true → ¬urgent → refused .barred [])
          ∧ (gate → (c.barred = false ∨ urgent) → isOpen = true → refused .wrongState [])
          ∧ (gate → c.barred = false → isOpen = false → kind = .data → emergency = true → refused .badField [])))
    ∧ (s.Serves r m (.closeBearer h kind) →
      let refused := fun (st : Status) => exec .closeBearer s = .next (s.finish r m ⟨st, []⟩)
      (c.state = .free → refused .noContext)
      ∧ (c.state ≠ .free → c.state = .probation ∨ c.state = .linger ∨ isOpen = false → refused .wrongState))

/-- DETACH and RETIRE: an IDLE, CARRYING or PARKED context enters LINGER with linger open, its bearers closed, its route
unbound and the linger deadline set, its other fields kept; a PROBATION context returns to FREE. DETACH raises
CONTEXT_RETIRED with the handle and the cause DETACHED; RETIRE raises no event and refuses a LINGER context. -/
def Obligations.RetirementServed : Prop :=
  ∀ (s : State) (r : RequesterId) (m : Message) (h : Handle),
    let c := s.ctx h
    let lingering := { c with
      state := .linger, voiceOpen := false, voiceEmergency := false, dataOpen := false, route := none
      lingerOpen := true, deadline := some (min (s.clock + s.limits.linger) 4294967295) }
    let told := fun (t : State) =>
      { t with events := { t.events with
        pendingSet := t.events.pendingSet ||| 1#17
        details := { t.events.details with retiredHandle := h, retiredCause := some .detached } } }
    (∀ i, s.Serves r m (.detach i) →
      (s.indexed i = none → exec .detach s = .next (s.finish r m ⟨.noContext, []⟩))
      ∧ (s.indexed i = some h → c.state = .probation →
          exec .detach s = .next ((told (s.commit h Context.free)).finish r m ⟨.ok, octets 2 h.val ++ octets 1 0⟩))
      ∧ (s.indexed i = some h → c.state = .idle ∨ c.state = .carrying ∨ c.state = .parked →
          exec .detach s = .next ((told (s.commit h lingering)).finish r m ⟨.ok, octets 2 h.val ++ octets 1 5⟩)))
    ∧ (∀ i, s.Serves r m (.retire h i) →
      (c.state = .free ∨ c.identity ≠ some i → exec .retire s = .next (s.finish r m ⟨.noContext, []⟩))
      ∧ (c.state = .linger → c.identity = some i → exec .retire s = .next (s.finish r m ⟨.wrongState, []⟩))
      ∧ (c.state = .probation → c.identity = some i →
          exec .retire s = .next ((s.commit h Context.free).finish r m ⟨.ok, octets 2 h.val ++ octets 1 0⟩))
      ∧ (c.state = .idle ∨ c.state = .carrying ∨ c.state = .parked → c.identity = some i →
          exec .retire s = .next ((s.commit h lingering).finish r m ⟨.ok, octets 2 h.val ++ octets 1 5⟩)))

/-- ADMIT: a PROBATION context takes plan, cap and policy and enters IDLE on the slot that route selection gives, or
PARKED with the park limit of the LIVE profile; and route selection gives the first slot of the list that applies that
is in CARRY, eligible, not lost and not draining, or none. -/
def Obligations.AdmitServed : Prop :=
  (∀ (s : State) (r : RequesterId) (m : Message) (h : Handle) (i : Identity) (plan : Fin 8) (cap : Nat)
      (policy : Policy), s.Serves r m (.admitContext h i plan cap policy) →
    let c := s.ctx h
    let idle := min (s.clock + s.limits.idle) 4294967295
    let park := min (s.clock + s.live.parkLimit) 4294967295
    (c.state = .free ∨ c.identity ≠ some i → exec .admitContext s = .next (s.finish r m ⟨.noContext, []⟩))
    ∧ (c.state ≠ .free → c.state ≠ .probation → c.identity = some i →
        exec .admitContext s = .next (s.finish r m ⟨.wrongState, []⟩))
    ∧ (c.state = .probation → c.identity = some i →
        (∀ slot, s.selectRoute c.home = some slot →
          exec .admitContext s = .next
            ((s.commit h { c with
                plan := plan, cap := cap, policy := policy, handed := false, state := .idle, route := some slot
                deadline := some idle }).finish r m
              ⟨.ok, octets 2 h.val ++ octets 1 2 ++ octets 1 1 ++ octets 1 slot.val ++ octets 4 idle⟩))
        ∧ (s.selectRoute c.home = none →
          exec .admitContext s = .next
            ((s.commit h { c with
                plan := plan, cap := cap, policy := policy, handed := false, state := .parked
                deadline := some park }).finish r m
              ⟨.ok, octets 2 h.val ++ octets 1 4 ++ optOctets 1 (c.route.map (·.val)) ++ octets 4 park⟩))))
  ∧ ∀ (s : State) (home : Nat),
    let list := match s.routes.homes.find? (fun e => e.1 = home) with
      | some e => e.2
      | none => s.routes.default
    let takes := fun (i : LinkId) => (s.link i).state = .carry ∧ s.live.eligible.get i = true
      ∧ s.migration.lost.get i = false ∧ s.migration.draining ≠ some i
    (s.selectRoute home = none ↔ ∀ i ∈ list, ¬takes i)
    ∧ ∀ i, s.selectRoute home = some i ↔ takes i ∧ ∃ before after, list = before ++ i :: after ∧ ∀ j ∈ before, ¬takes j

/-- REFUSE and SETTLE return a context to FREE, every field at its FREE value: REFUSE one in PROBATION, SETTLE one in
LINGER whose linger has closed; every other context refuses them. -/
def Obligations.RefuseAndSettleServed : Prop :=
  ∀ (s : State) (r : RequesterId) (m : Message) (h : Handle),
    let c := s.ctx h
    let freed := s.commit h Context.free
    (∀ i, s.Serves r m (.refuse h i) →
      (c.state = .free ∨ c.identity ≠ some i → exec .refuse s = .next (s.finish r m ⟨.noContext, []⟩))
      ∧ (c.state ≠ .free → c.state ≠ .probation → c.identity = some i →
          exec .refuse s = .next (s.finish r m ⟨.wrongState, []⟩))
      ∧ (c.state = .probation → c.identity = some i →
          exec .refuse s = .next (freed.finish r m ⟨.ok, octets 2 h.val⟩)))
    ∧ (s.Serves r m (.settleContext h) →
      (c.state = .free → exec .settleContext s = .next (s.finish r m ⟨.noContext, []⟩))
      ∧ (c.state ≠ .free → (c.state ≠ .linger ∨ c.lingerOpen = true) →
          exec .settleContext s = .next (s.finish r m ⟨.wrongState, []⟩))
      ∧ (c.state = .linger → c.lingerOpen = false →
          exec .settleContext s = .next
            (freed.finish r m ⟨.ok, octets 2 h.val ++ octets 2 (s.store.freeCount + 1)⟩)))

/-- NEXT_PROBATION hands out the first entry from the head whose handed flag is clear, or answers EMPTY; NEXT_SETTLEMENT
reports the entry that stands skip places behind the head and changes nothing, or answers EMPTY with the queue
length. The identity and the deadline carried with no presence octet are the model's reading (notes/assumptions/9.md). -/
def Obligations.QueueReportsServed : Prop :=
  ∀ (s : State) (r : RequesterId) (m : Message),
    (s.Serves r m .nextProbation →
      ((∀ h ∈ s.store.probation, (s.ctx h).handed = true) →
        exec .nextProbation s = .next (s.finish r m ⟨.empty, []⟩))
      ∧ ∀ before h after, s.store.probation = before ++ h :: after → (∀ h' ∈ before, (s.ctx h').handed = true) →
        (s.ctx h).handed = false →
        let c := s.ctx h
        exec .nextProbation s = .next
          ((s.commit h { c with handed := true }).finish r m
            ⟨.ok, octets 2 h.val ++ octets 8 ((c.identity.map (·.toNat)).getD 0) ++ octets 3 c.home
              ++ octets 1 c.cell.val ++ octets 4 (c.deadline.getD 0)⟩))
    ∧ (∀ skip, s.Serves r m (.nextSettlement skip) →
      (s.store.settlement.length ≤ skip →
        exec .nextSettlement s = .next (s.finish r m ⟨.empty, octets 2 s.store.settlement.length⟩))
      ∧ ∀ h, s.store.settlement[skip]? = some h →
        let c := s.ctx h
        exec .nextSettlement s = .next (s.finish r m
          ⟨.ok, octets 2 h.val ++ octets 2 s.store.settlement.length
            ++ octets 8 ((c.identity.map (·.toNat)).getD 0) ++ octets 3 c.home ++ octets 1 c.plan.val
            ++ octets 4 c.cap ++ octets 1 c.policy.code ++ octets 4 c.overrun ++ octets 1 (flagOctet c.barred)
            ++ octets 1 (flagOctet c.slow) ++ octets 1 c.allowances.length
            ++ c.allowances.flatMap (fun a => octets 1 a.kind.code ++ octets 5 a.balance ++ octets 1 a.tag.toNat)
            ++ octets 3 c.remainder ++ octets 3 ((c.voice.map (·.billed)).getD 0)
            ++ octets 1 (flagOctet c.lingerOpen)⟩))

/-! ## Allowances, caps and rating -/

/-- The context and state checks of the four requests on a context's terms (R59): NO_CONTEXT for a FREE handle,
WRONG_STATE in PROBATION and in LINGER with linger closed. -/
def Obligations.TermsRefused : Prop :=
  ∀ (s : State) (r : RequesterId) (m : Message) (q : Request) (h : Handle), s.Serves r m q →
    ((∃ k a tag, q = .addAllowance h k a tag) ∨ (∃ tag, q = .removeAllowance h tag)
      ∨ (∃ cap p, q = .setCap h cap p) ∨ (∃ plan, q = .setPlan h plan)) →
    ((s.ctx h).state = .free → exec q.kind.command s = .next (s.finish r m ⟨.noContext, []⟩))
    ∧ ((s.ctx h).state = .probation ∨ ((s.ctx h).state = .linger ∧ (s.ctx h).lingerOpen = false) →
        exec q.kind.command s = .next (s.finish r m ⟨.wrongState, []⟩))

/-- ADD_ALLOWANCE: an entry of the tag of another kind refuses it with BAD_FIELD; one of the same kind is topped up,
saturating at the kind's maximum, at its position; with no entry of the tag a full list refuses it with FULL, and
otherwise a new entry joins at the tail. Kind UNITS clears barred and slow; the others leave them. REMOVE_ALLOWANCE: the
entry of the tag leaves the list and the entries behind it close up, or NO_ENTRY; no flag, no overrun and no event
changes. -/
def Obligations.AllowancesAddedAndRemoved : Prop :=
  (∀ (s : State) (r : RequesterId) (m : Message) (h : Handle) (kind : AllowanceKind) (amount : Nat) (tag : Byte),
    s.Serves r m (.addAllowance h kind amount tag) → (s.ctx h).termsOpen →
    let c := s.ctx h
    let maximum := match kind with
      | .units => 4294967295
      | .octets => 1099511627775
      | .seconds => 1048575
    let cleared := fun (c : Context) => if kind = .units then { c with barred := false, slow := false } else c
    let answer := fun (c : Context) (balance added position : Nat) => (⟨.ok, octets 2 h.val ++ octets 1 tag.toNat
      ++ octets 1 kind.code ++ octets 5 balance ++ octets 5 added ++ octets 1 position ++ octets 1 c.allowances.length
      ++ octets 1 (flagOctet c.barred) ++ octets 1 (flagOctet c.slow)⟩ : Reply)
    (∀ before a after, c.allowances = before ++ a :: after → (∀ b ∈ before, b.tag ≠ tag) → a.tag = tag →
      (a.kind ≠ kind → exec .addAllowance s = .next (s.finish r m ⟨.badField, []⟩))
      ∧ (a.kind = kind → (∀ b ∈ after, b.tag ≠ tag) →
          let balance := min (a.balance + amount) maximum
          let c' := cleared { c with allowances := before ++ { a with balance := balance } :: after }
          exec .addAllowance s = .next
            ((s.commit h c').finish r m (answer c' balance (balance - a.balance) before.length))))
    ∧ ((∀ a ∈ c.allowances, a.tag ≠ tag) →
      (4 ≤ c.allowances.length → exec .addAllowance s = .next (s.finish r m ⟨.full, []⟩))
      ∧ (c.allowances.length < 4 →
          let c' := cleared { c with allowances := c.allowances ++ [⟨kind, amount, tag⟩] }
          exec .addAllowance s = .next ((s.commit h c').finish r m (answer c' amount amount c.allowances.length)))))
  ∧ ∀ (s : State) (r : RequesterId) (m : Message) (h : Handle) (tag : Byte),
    s.Serves r m (.removeAllowance h tag) → (s.ctx h).termsOpen →
    let c := s.ctx h
    ((∀ a ∈ c.allowances, a.tag ≠ tag) → exec .removeAllowance s = .next (s.finish r m ⟨.noEntry, []⟩))
    ∧ ∀ before a after, c.allowances = before ++ a :: after → a.tag = tag → (∀ b ∈ before ++ after, b.tag ≠ tag) →
      exec .removeAllowance s = .next
        ((s.commit h { c with allowances := before ++ after }).finish r m
          ⟨.ok, octets 2 h.val ++ octets 1 tag.toNat ++ octets 1 a.kind.code ++ octets 5 a.balance
            ++ octets 1 (before.length + after.length)⟩)

/-- SET_CAP: the cap applied is the greater of the cap requested and the overrun; the policy is the request's; barred
and slow clear where the cap applied is above the overrun and stay where it equals it. SET_PLAN: the plan becomes the
request's, and nothing else of the context changes. -/
def Obligations.CapAndPlanSet : Prop :=
  (∀ (s : State) (r : RequesterId) (m : Message) (h : Handle) (cap : Nat) (policy : Policy),
    s.Serves r m (.setCap h cap policy) → (s.ctx h).termsOpen →
    let c := s.ctx h
    let applied := max cap c.overrun
    let c' := { c with
      cap := applied, policy := policy
      barred := if c.overrun < applied then false else c.barred
      slow := if c.overrun < applied then false else c.slow }
    exec .setCap s = .next
      ((s.commit h c').finish r m
        ⟨.ok, octets 2 h.val ++ octets 4 applied ++ octets 1 policy.code ++ octets 4 c.overrun
          ++ octets 1 (flagOctet c'.barred) ++ octets 1 (flagOctet c'.slow)⟩))
  ∧ ∀ (s : State) (r : RequesterId) (m : Message) (h : Handle) (plan : Fin 8),
    s.Serves r m (.setPlan h plan) → (s.ctx h).termsOpen →
    exec .setPlan s = .next
      ((s.commit h { s.ctx h with plan := plan }).finish r m ⟨.ok, octets 2 h.val ++ octets 1 plan.val⟩)

/-- A draw on a list whose balances are above zero: entries of other kinds stay as they are and every entry left keeps
its place in the order; of the kind drawn, the first entries leave whole, in list order, the next one may lose a part,
and the rest stay; what is still to be drawn is 0 unless every entry of the kind has left. -/
def Obligations.DrawFollowsTheList : Prop :=
  ∀ (kind : AllowanceKind) (amount : Nat) (list : List Allowance), (∀ a ∈ list, 0 < a.balance) →
    let d := draw kind amount list
    d.allowances.filter (fun a => a.kind ≠ kind) = list.filter (fun a => a.kind ≠ kind)
    ∧ (d.allowances.map (fun a => (a.kind, a.tag))).Sublist (list.map (fun a => (a.kind, a.tag)))
    ∧ ∃ gone kept, list.filter (fun a => a.kind = kind) = gone ++ kept ∧ d.tags = gone.map (·.tag)
      ∧ (gone.map (·.balance)).sum ≤ amount
      ∧ (kept = [] → d.rest = amount - (gone.map (·.balance)).sum
          ∧ d.allowances.filter (fun a => a.kind = kind) = [])
      ∧ ∀ a others, kept = a :: others → d.rest = 0 ∧ amount - (gone.map (·.balance)).sum < a.balance
          ∧ d.allowances.filter (fun a => a.kind = kind)
              = { a with balance := a.balance - (amount - (gone.map (·.balance)).sum) } :: others

/-- The stages of a rating. Stages 1 and 2: what an OCTETS draw does not absorb is counted with the remainder into whole
blocks, what is left of a block stays in the remainder, and the data money is the blocks at the data price. Stage 3:
no record leaves the seconds unrated, no seconds change nothing; otherwise the elapsed count advances up to its maximum,
the billable seconds are the least whole number of increments that holds it, raised to the minimum and held at the
maximum, the charge is what is billable above what was billed, an emergency record is charged at price 0 and draws
nothing, and any other draws SECONDS and is priced per minute with the fraction carried. Stage 4: the data money and the
voice money are drawn from UNITS, the unpaid rest is laid on the overrun up to the cap and what is above it is written
off; the cap is met where money is written off, or where some is unpaid and the overrun then stands at the cap. A report
is rated by the stages in their order, each on the list and the amounts that the ones before it left, and one whose
counts are all zero has nothing drawn and its remainder unchanged (notes/assumptions/17.md). -/
def Obligations.RatingStages : Prop :=
  ∀ (row : TariffRow) (list : List Allowance), 1 ≤ row.blockSize → 1 ≤ row.increment →
    (∀ overrun cap money : Nat,
      let m := moneyStage list overrun cap money
      let drawn := draw .units money list
      m.allowances = drawn.allowances ∧ m.tags = drawn.tags ∧ m.money = money ∧ m.unpaid = drawn.rest
        ∧ m.drawn + drawn.rest = money ∧ m.overrun = min (overrun + drawn.rest) cap
        ∧ m.writtenOff = overrun + drawn.rest - cap
        ∧ (overrun ≤ cap → m.overrun = overrun + m.added ∧ m.added + m.writtenOff = drawn.rest)
        ∧ (m.meetsCap cap = true ↔ 0 < m.writtenOff ∨ (0 < drawn.rest ∧ m.overrun = cap)))
    ∧ (∀ (c : Context) (volume seconds : Nat), c.allowances = list →
      let r := rate row c volume seconds
      (0 < volume ∨ 0 < seconds → r.dataPart = dataStage row list c.remainder volume)
        ∧ (volume = 0 → seconds = 0 → r.dataPart.allowances = list ∧ r.dataPart.tags = [] ∧ r.dataPart.absorbed = 0
            ∧ r.dataPart.blocks = 0 ∧ r.dataPart.remainder = c.remainder ∧ r.dataPart.money = 0)
        ∧ r.voicePart = voiceStage row r.dataPart.allowances c.voice seconds
        ∧ r.moneyPart = moneyStage r.voicePart.allowances c.overrun c.cap (r.dataPart.money + r.voicePart.money))
    ∧ (∀ remainder volume : Nat,
      let d := dataStage row list remainder volume
      let drawn := draw .octets volume list
      d.allowances = drawn.allowances ∧ d.tags = drawn.tags ∧ d.absorbed + drawn.rest = volume
        ∧ d.blocks * row.blockSize + d.remainder = remainder + drawn.rest ∧ d.remainder < row.blockSize
        ∧ d.money = d.blocks * row.dataPrice)
    ∧ (∀ seconds : Nat,
      let v := voiceStage row list none seconds
      v.allowances = list ∧ v.tags = [] ∧ v.record = none ∧ v.unrated = seconds ∧ v.charged = 0 ∧ v.priced = 0
        ∧ v.absorbed = 0 ∧ v.money = 0)
    ∧ (∀ record : VoiceRecord,
      let v := voiceStage row list (some record) 0
      v.allowances = list ∧ v.tags = [] ∧ v.record = some record ∧ v.unrated = 0 ∧ v.charged = 0 ∧ v.priced = 0
        ∧ v.absorbed = 0 ∧ v.money = 0)
    ∧ ∀ (record : VoiceRecord) (seconds : Nat), 0 < seconds → record.fraction < 60 →
      let v := voiceStage row list (some record) seconds
      let elapsed := min (record.elapsed + seconds) 1048575
      ∃ increments billable : Nat,
        elapsed ≤ increments * row.increment ∧ (∀ j, elapsed ≤ j * row.increment → increments ≤ j)
        ∧ billable = min (max (increments * row.increment) row.minimum) 1048575
        ∧ v.unrated = 0 ∧ v.charged = billable - record.billed ∧ v.absorbed + v.priced = v.charged
        ∧ (∃ fraction, v.record = some ⟨elapsed, max record.billed billable, fraction, record.emergency⟩
            ∧ fraction < 60 ∧ 60 * v.money + fraction = v.priced * v.price + record.fraction)
        ∧ (record.emergency = true → v.allowances = list ∧ v.tags = [] ∧ v.price = 0 ∧ v.priced = v.charged)
        ∧ (record.emergency = false →
            let drawn := draw .seconds v.charged list
            v.allowances = drawn.allowances ∧ v.tags = drawn.tags ∧ v.price = row.voicePrice
              ∧ v.priced = drawn.rest)

/-- For every voice record: sixty times the voice money charged against it plus its fraction is the sum over its rated
reports of priced seconds times the price applied, and the fraction is below 60. A record starts with nothing elapsed,
billed or owed, as OPEN_BEARER makes it (`Obligations.BearersServed`). -/
def Obligations.VoiceAccounted : Prop :=
  ∀ (emergency : Bool) (reports : List (TariffRow × List Allowance × Nat)),
    let account := voiceAccount ⟨0, 0, 0, emergency⟩ reports
    60 * account.money + account.record.fraction = account.due ∧ account.record.fraction < 60

/-- REPORT_USAGE: refused by the context's state, with state and identity where the rule names them, and otherwise
taken: priced by the row of the profile that the zone tag names (the LIVE one where it names neither), for the context's
plan and the column of the slot's kind, rated through its stages, the idle deadline renewed where a count is nonzero and
the context IDLE, and the policy applied where the cap is met; each removed tag raises ALLOWANCE_SPENT, and a cap met
raises CAP_REACHED. The answer carries the fields of R92 in their order. What the stages leave is
`Obligations.RatingStages`; the identity carried with no presence octet is the model's reading
(notes/assumptions/9.md). -/
def Obligations.ReportUsageServed : Prop :=
  ∀ (s : State) (r : RequesterId) (m : Message) (h : Handle) (slot : LinkId) (tag up down seconds : Nat),
    s.Serves r m (.reportUsage h slot tag up down seconds) →
    let c := s.ctx h
    let told := octets 1 c.state.code ++ octets 8 ((c.identity.map (·.toNat)).getD 0)
    (c.state = .free → exec .reportUsage s = .next (s.finish r m ⟨.noContext, []⟩))
    ∧ (c.state = .probation → exec .reportUsage s = .next (s.finish r m ⟨.wrongState, told⟩))
    ∧ (c.state = .linger → c.lingerOpen = false → exec .reportUsage s = .next (s.finish r m ⟨.tooLate, told⟩))
    ∧ (c.termsOpen → ∀ (p : ProfileId) (grace stale : Bool),
        (((tag = 0 ∨ tag = s.live.zone) ∧ p = s.liveSlot ∧ grace = false ∧ stale = false)
          ∨ (tag ≠ 0 ∧ tag ≠ s.live.zone ∧ s.slotIn .grace = some p ∧ (s.bank.slots.get p).zone = tag ∧ grace = true
            ∧ stale = false)
          ∨ (tag ≠ 0 ∧ tag ≠ s.live.zone ∧ (∀ g, s.slotIn .grace = some g → (s.bank.slots.get g).zone ≠ tag)
            ∧ p = s.liveSlot ∧ grace = false ∧ stale = true)) →
        let column := if (s.link slot).kind = .sat then Column.sat else .shore
        let rated := rate ((s.bank.slots.get p).row c.plan column) c (up + down) seconds
        let idle := min (s.clock + s.limits.idle) 4294967295
        let met := 0 < rated.moneyPart.writtenOff ∨ (0 < rated.moneyPart.unpaid ∧ rated.moneyPart.overrun = c.cap)
        let charged := { c with
          allowances := rated.moneyPart.allowances, remainder := rated.dataPart.remainder
          voice := rated.voicePart.record, overrun := rated.moneyPart.overrun
          deadline := if c.state = .idle ∧ (0 < up ∨ 0 < down ∨ 0 < seconds) then some idle else c.deadline }
        let kept := c.voiceOpen && c.voiceEmergency
        let c' :=
          if met then
            match c.policy with
            | .slow => { charged with slow := true }
            | .bar =>
              { charged with
                barred := true, voiceOpen := kept, voiceEmergency := kept, dataOpen := false
                state := if c.state = .carrying ∧ kept = false then .idle else c.state
                deadline := if c.state = .carrying ∧ kept = false then some idle else charged.deadline }
          else charged
        let tags := rated.dataPart.tags ++ rated.voicePart.tags ++ rated.moneyPart.tags
        let t := s.commit h c'
        let told := { t with events := { t.events with
          pendingSet := t.events.pendingSet ||| (if tags = [] then 0#17 else 2#17) ||| (if met then 4#17 else 0#17)
          details := { t.events.details with
            spentHandle := if tags = [] then t.events.details.spentHandle else h
            spentTag := tags.getLast?.getD t.events.details.spentTag
            capHandle := if met then h else t.events.details.capHandle } } }
        let d := rated.dataPart
        let v := rated.voicePart
        let money := rated.moneyPart
        let zone := (s.bank.slots.get p).zone
        let unnamed := stale || decide ((s.link slot).kind = .unused)
        exec .reportUsage s = .next (told.finish r m
          ⟨.ok, octets 2 h.val ++ octets 8 ((c.identity.map (·.toNat)).getD 0) ++ octets 1 c'.state.code
            ++ octets 1 (if grace = true then 4 else 3) ++ octets 2 zone ++ octets 1 column.code
            ++ octets 1 (flagOctet unnamed)
            ++ octets 4 d.absorbed ++ octets 3 d.blocks ++ octets 3 d.remainder ++ octets 5 d.money
            ++ octets 2 v.unrated ++ octets 3 ((v.record.map (·.elapsed)).getD 0)
            ++ octets 3 ((v.record.map (·.billed)).getD 0) ++ octets 3 v.charged ++ octets 3 v.absorbed
            ++ octets 3 v.priced ++ octets 2 v.price ++ octets 1 ((v.record.map (·.fraction)).getD 0)
            ++ octets 4 v.money
            ++ octets 5 money.money ++ octets 5 money.drawn ++ octets 4 money.added ++ octets 5 money.writtenOff
            ++ octets 4 money.overrun ++ octets 4 c.cap ++ octets 1 (if met then 1 else 0)
            ++ octets 1 (flagOctet c'.barred) ++ octets 1 (flagOctet c'.slow)
            ++ octets 1 tags.length ++ tags.flatMap (fun t => octets 1 t.toNat)
            ++ octets 1 money.allowances.length⟩))

/-- For every usage report taken, the money it prices, data money and voice money, is what it draws from UNITS
allowances plus what it adds to the overrun plus what it writes off: the UNITS balances of the context fall by the money
drawn, and its overrun grows by the money added. The answer reports each of them: the five octets behind the first 26 of
its body are the data money, the 18 octets behind the first 51 the voice money, the money priced, the money drawn, the
money added and, in five more, the money written off; these places rest on the widths and the identity without a presence
octet of notes/assumptions/9.md. -/
def Obligations.ReportMoneyAccounted : Prop :=
  ∀ (s : State) (r : RequesterId) (m : Message) (h : Handle) (slot : LinkId) (tag up down seconds : Nat),
    s.Serves r m (.reportUsage h slot tag up down seconds) → (s.ctx h).termsOpen → (s.ctx h).overrun ≤ (s.ctx h).cap →
    ∃ (t : State) (head middle tail : List Byte) (dataMoney voiceMoney drawn added writtenOff : Nat),
      exec .reportUsage s = .next t
      ∧ t.port.sent = s.port.sent ++ [⟨r, m.kind, m.tag, .ok,
          head ++ octets 5 dataMoney ++ middle ++ octets 4 voiceMoney ++ octets 5 (dataMoney + voiceMoney)
            ++ octets 5 drawn ++ octets 4 added ++ octets 5 writtenOff ++ tail⟩]
      ∧ head.length = 26 ∧ middle.length = 20 ∧ dataMoney + voiceMoney = drawn + added + writtenOff
      ∧ (t.ctx h).overrun = (s.ctx h).overrun + added
      ∧ (((t.ctx h).allowances.filter (fun a => a.kind = .units)).map (·.balance)).sum + drawn
          = (((s.ctx h).allowances.filter (fun a => a.kind = .units)).map (·.balance)).sum

/-! ## The master hold, the clock and the sweep -/

/-- The master hold: HOLD_STORE is refused while it is HELD and otherwise makes it REQUESTED; its grant makes the
arbiter HELD, starts the hold timer and answers the HOLD_STORE that waits; RELEASE_STORE ends it, or is refused; the
expiry of its timer revokes it, but during a service waits for that request's answer. The end of a hold stops the timer
and lets the Migration Engine choose a walk where none is in progress. That a running hold timer's expiry is taken
whatever time is left on it is the model's choice (notes/assumptions/2.md). -/
def Obligations.MasterHoldServed : Prop :=
  ∀ (s : State) (r : RequesterId) (m : Message),
    let ended := { s with
      hold := ⟨.notHeld, none, false⟩
      migration := match s.migration.walk with | none => s.migration.next false | some _ => s.migration }
    (s.Serves r m .holdStore →
      (s.hold.state = .held → exec .holdStore s = .next (s.finish r m ⟨.wrongState, []⟩))
      ∧ (s.hold.state ≠ .held →
          exec .holdStore s = .next { s with hold := { s.hold with state := .requested } }.conclude))
    ∧ (s.arbiter = .granted .hold → s.hold.state = .requested → s.port.engine = .serving r →
        (s.entry r).queue.head? = some m →
        exec .holdGrant s = .next
          ({ s with arbiter := .held, hold := ⟨.held, some (s.limits.hold * 1000), false⟩ }.finish r m
            ⟨.ok, octets 2 s.limits.hold⟩))
    ∧ (s.Serves r m .releaseStore →
        (s.hold.state = .held → exec .releaseStore s = .next (ended.finish r m ⟨.ok, []⟩))
        ∧ (s.hold.state ≠ .held → exec .releaseStore s = .next (s.finish r m ⟨.wrongState, []⟩)))
    ∧ (s.hold.state = .held → s.hold.timer ≠ none →
        (s.port.engine = .serving r →
          exec .holdTimerExpiry s = .next { s with hold := ⟨.held, some 0, true⟩ })
        ∧ ((∀ r', s.port.engine ≠ .serving r') →
          exec .holdTimerExpiry s = .next
            { ended with events := { s.events with pendingSet := s.events.pendingSet ||| 4096#17 } }.conclude))

/-- While the master hold is granted, no context changes but by a request from requester 0, or where power-on or the
RESET line resets the part. -/
def Obligations.HoldProtectsContexts : Prop :=
  ∀ (c : Instr) (s t : State), ArbiterInv s → s.hold.state = .held → c ≠ .powerOn → c ≠ .resetLine →
    (∀ m, s.inService ≠ some (0, m)) → exec c s = .next t → t.store = s.store

/-- A period boundary increases the clock by one while the part is RUNNING and the clock is not at its top, and a
waiting sweep begins a pass at handle 0, while an incomplete pass sets urgent. A visit takes the expiry of the context at
the cursor where its deadline is reached: PROBATION returns to FREE, IDLE and PARKED enter LINGER with linger open, each
with CONTEXT_RETIRED, and an open linger closes; the cursor advances, and the visit of handle 2047 completes the pass,
behind which an urgent sweep begins the next one at once. That the visit compares with the clock at its own command is
the model's reading (notes/assumptions/16.md). -/
def Obligations.ClockAndSweep : Prop :=
  ∀ s : State,
    (s.runState = .running → s.clock < 4294967295 →
      exec .periodBoundary s = .next
        { s with
          clock := s.clock + 1
          sweep := if s.sweep.pass = PassState.waiting then ⟨.passing, 0, s.sweep.urgent⟩
            else ⟨.passing, s.sweep.cursor, true⟩ }.conclude)
    ∧ (s.arbiter = .granted .sweep → s.sweep.pass = .passing →
      let h := s.sweep.cursor
      let c := s.ctx h
      let due := ∃ d, c.deadline = some d ∧ d ≤ s.clock
      let visited := fun (t : State) => exec .sweepVisit s = .next
        { t with
          arbiter := .idle
          sweep := if h.val = 2047 then ⟨(if s.sweep.urgent = true then .passing else .waiting : PassState), 0, false⟩
            else ⟨.passing, h + 1, s.sweep.urgent⟩ }.conclude
      let told := fun (t : State) (cause : Cause) =>
        { t with events := { t.events with
          pendingSet := t.events.pendingSet ||| 1#17
          details := { t.events.details with retiredHandle := h, retiredCause := some cause } } }
      let lingering := { c with
        state := .linger, voiceOpen := false, voiceEmergency := false, dataOpen := false, route := none
        lingerOpen := true, deadline := some (min (s.clock + s.limits.linger) 4294967295) }
      (¬due → visited s)
      ∧ (due → c.state = .free ∨ c.state = .carrying → visited s)
      ∧ (due → c.state = .probation → visited (told (s.commit h Context.free) .probationExpired))
      ∧ (due → c.state = .idle → visited (told (s.commit h lingering) .idleExpired))
      ∧ (due → c.state = .parked → visited (told (s.commit h lingering) .parkExpired))
      ∧ (due → c.state = .linger → c.lingerOpen = true →
          visited (s.commit h { c with lingerOpen := false, deadline := none }))
      ∧ (due → c.state = .linger → c.lingerOpen = false → visited s))

/-! ## Zone profiles -/

/-- OPEN_PROFILE gives the lowest FREE slot the role OPEN with cleared fields, and is refused where a slot is OPEN;
DISCARD_PROFILE makes an OPEN or STAGED slot FREE with cleared fields and refuses every other; READ_PROFILE reports a
slot in any role, with a row where one is named, and changes nothing. The order of the header's fields in that report is
the model's reading (notes/assumptions/9.md). -/
def Obligations.ProfileSlotsServed : Prop :=
  ∀ (s : State) (r : RequesterId) (m : Message) (i : ProfileId),
    let p := s.bank.slots.get i
    let cleared := fun (role : Role) => (⟨role, 0, .dark, ⟨false, false, false, false⟩, ⟨[], [], [], []⟩, 0, 0,
      Vector.replicate 16 ⟨0, 0, 0, 0, 0, false⟩⟩ : ProfileSlot)
    (s.Serves r m .openProfile →
      ((∃ j, (s.bank.slots.get j).role = .opened) ∨ (∀ j, (s.bank.slots.get j).role ≠ .free) →
        exec .openProfile s = .next (s.finish r m ⟨.wrongState, []⟩))
      ∧ ((∀ j, (s.bank.slots.get j).role ≠ .opened) → p.role = .free →
          (∀ j, j < i → (s.bank.slots.get j).role ≠ .free) →
          exec .openProfile s = .next ((s.setSlot i (cleared .opened)).finish r m ⟨.ok, octets 1 i.val⟩)))
    ∧ (s.Serves r m (.discardProfile i) →
      (p.role = .opened ∨ p.role = .staged →
        exec .discardProfile s = .next ((s.setSlot i (cleared .free)).finish r m ⟨.ok, octets 1 i.val⟩))
      ∧ (p.role = .free ∨ p.role = .live ∨ p.role = .grace →
        exec .discardProfile s = .next (s.finish r m ⟨.wrongState, []⟩)))
    ∧ ∀ row : Option (Fin 8 × Column), s.Serves r m (.readProfile i row) →
      let codes := fun (list : List Nat) => octets 1 list.length ++ list.flatMap (octets 3)
      let named := match row with
        | none => []
        | some (plan, column) =>
          let t := p.rows.get (rowIndex plan column)
          octets 4 t.blockSize ++ octets 2 t.dataPrice ++ octets 2 t.voicePrice ++ octets 1 t.increment
            ++ octets 2 t.minimum ++ octets 1 (flagOctet t.written)
      exec .readProfile s = .next (s.finish r m
        ⟨.ok, octets 1 p.role.code ++ octets 2 p.zone ++ octets 1 p.permit.code ++ octets 2 p.parkLimit
          ++ octets 2 p.graceWindow ++ octets 1 (setOctet p.eligible) ++ codes p.candidates.s0 ++ codes p.candidates.s1
          ++ codes p.candidates.s2 ++ codes p.candidates.s3 ++ octets 1 (p.rows.toList.countP (·.written)) ++ named⟩)

/-- The three write requests are refused where no slot is OPEN, and otherwise write the OPEN slot alone: the header's
five fields, the grace window held to 600 s; one row, refused where its block size is out of range, with the increment
held to 1 to 60 s and the minimum to 300 s; one candidate list, its codes held to 999,999, later repeats dropped, and at
most six kept. -/
def Obligations.ProfileWritesServed : Prop :=
  ∀ (s : State) (r : RequesterId) (m : Message) (q : Request), s.Serves r m q →
    ((∀ j, (s.bank.slots.get j).role ≠ .opened) →
      (q.kind = .writeProfileHeader ∨ q.kind = .writeTariffRow ∨ q.kind = .writeCandidates) →
      exec q.kind.command s = .next (s.finish r m ⟨.wrongState, []⟩))
    ∧ ∀ i : ProfileId, (s.bank.slots.get i).role = .opened → (∀ j, j < i → (s.bank.slots.get j).role ≠ .opened) →
      let p := s.bank.slots.get i
      (∀ zone permit eligible park grace, q = .writeProfileHeader zone permit eligible park grace →
        exec .writeProfileHeader s = .next
          ((s.setSlot i { p with
              zone := zone, permit := permit, eligible := eligible, parkLimit := park
              graceWindow := min grace 600 }).finish r m
            ⟨.ok, octets 1 i.val ++ octets 2 zone ++ octets 1 permit.code ++ octets 1 (setOctet eligible)
              ++ octets 2 park ++ octets 2 (min grace 600)⟩))
      ∧ (∀ plan column b pd pv increment minimum,
        q = .writeTariffRow plan column b pd pv increment minimum →
        (b < 256 ∨ 1048576 < b → exec .writeTariffRow s = .next (s.finish r m ⟨.badField, []⟩))
        ∧ (256 ≤ b → b ≤ 1048576 →
            let increment' := if increment = 0 then 1 else min increment 60
            let minimum' := min minimum 300
            let k : Fin 16 := ⟨2 * plan.val + column.code, by cases column <;> simp only [Column.code] <;> omega⟩
            let rows := p.rows.set k.val ⟨b, pd, pv, increment', minimum', true⟩ k.isLt
            exec .writeTariffRow s = .next
              ((s.setSlot i { p with rows := rows }).finish r m
                ⟨.ok, octets 1 i.val ++ octets 1 plan.val ++ octets 1 column.code ++ octets 4 b ++ octets 2 pd
                  ++ octets 2 pv ++ octets 1 increment' ++ octets 2 minimum'
                  ++ octets 1 (rows.toList.countP (·.written))⟩)))
      ∧ ∀ slot codes, q = .writeCandidates slot codes →
        let list := ((codes.map (min · 999999)).eraseDups).take 6
        exec .writeCandidates s = .next
          ((s.setSlot i { p with candidates := p.candidates.set slot list }).finish r m
            ⟨.ok, octets 1 i.val ++ octets 1 slot.val ++ octets 1 list.length ++ list.flatMap (octets 3)⟩)

/-- STAGE_PROFILE: refused where no slot is OPEN, and with BAD_PROFILE, the failed conditions and the rows written where
the zone is 0, is the LIVE zone, or a row is unwritten; otherwise the STAGED slot and a GRACE slot of the same zone
become FREE, the latter with its deadline, the OPEN slot becomes STAGED, and where its zone is the present zone it is
promoted at once (`Obligations.PromotionExchangesRoles`). The freed slots carried as a set in one octet, with no presence
octet, are the model's reading (notes/assumptions/9.md). -/
def Obligations.StageProfileServed : Prop :=
  ∀ (s : State) (r : RequesterId) (m : Message), BankInv s.bank → s.Serves r m .stageProfile →
    ((∀ j, (s.bank.slots.get j).role ≠ .opened) →
      exec .stageProfile s = .next (s.finish r m ⟨.wrongState, []⟩))
    ∧ ∀ i : ProfileId, (s.bank.slots.get i).role = .opened →
      let p := s.bank.slots.get i
      let written := p.rows.toList.countP (·.written)
      let faults := (if p.zone = 0 then 1 else 0) + (if p.zone = s.live.zone then 2 else 0)
        + (if written = 16 then 0 else 4)
      let frees := fun (j : ProfileId) => decide ((s.bank.slots.get j).role = .staged
        ∨ ((s.bank.slots.get j).role = .grace ∧ (s.bank.slots.get j).zone = p.zone))
      let slot := fun (j : ProfileId) =>
        if j = i then { p with role := .staged }
        else if frees j then ProfileSlot.cleared .free else s.bank.slots.get j
      let staged := { s with bank := { s.bank with
        slots := ⟨slot 0, slot 1, slot 2, slot 3⟩
        graceDeadline := if ∃ j : ProfileId, (s.bank.slots.get j).role = Role.grace
            ∧ (s.bank.slots.get j).zone = p.zone then none
          else s.bank.graceDeadline } }
      let answer := fun (t : State) (promoted : Bool) => (⟨.ok, octets 1 i.val ++ octets 2 p.zone
        ++ octets 1 (setOctet ⟨frees 0, frees 1, frees 2, frees 3⟩) ++ octets 1 (flagOctet promoted)
        ++ octets 1 t.liveSlot.val ++ optOctets 1 ((t.slotIn .grace).map (·.val))⟩ : Reply)
      (faults ≠ 0 → exec .stageProfile s = .next
        (s.finish r m ⟨.badProfile, octets 1 faults ++ octets 1 written⟩))
      ∧ (faults = 0 → p.zone ≠ s.bank.presentZone →
          exec .stageProfile s = .next (staged.finish r m (answer staged false)))
      ∧ (faults = 0 → p.zone = s.bank.presentZone →
          exec .stageProfile s = .next ((staged.promote i).finish r m (answer (staged.promote i) true)))

/-- A promotion: the slot promoted becomes LIVE, the LIVE slot GRACE with a deadline by the new LIVE profile's window,
another GRACE slot FREE with no event; where the deadline is reached at once, the slot that was LIVE becomes FREE with
GRACE_ENDED. Then the coverage mode is recomputed, and the new LIVE profile acts on the four link slots in their order:
a SHORE slot in SCAN starts at the top of its list, a SHORE slot in TRACK keeps its operator where the list holds it and
otherwise is lost to SCAN, with LINK_LOST, and a slot in CARRY that is not eligible is demoted, with LINK_LAPSED. That
Coverage Control acts first, and the slots in ascending order, is the model's choice (notes/assumptions/18.md). -/
def Obligations.PromotionExchangesRoles : Prop :=
  (∀ (s : State) (i : ProfileId), BankInv s.bank →
    ((s.bank.slots.get i).role = .staged ∨ (s.bank.slots.get i).role = .grace) →
    let deadline := min (s.clock + (s.bank.slots.get i).graceWindow) 4294967295
    let slot := fun (j : ProfileId) =>
      let p := s.bank.slots.get j
      if j = i then { p with role := .live }
      else if p.role = .live then
        (if deadline ≤ s.clock then ProfileSlot.cleared .free else { p with role := .grace })
      else if p.role = .grace then ProfileSlot.cleared .free
      else p
    let bank := { s.bank with
      slots := ⟨slot 0, slot 1, slot 2, slot 3⟩
      graceDeadline := if deadline ≤ s.clock then none else some deadline }
    let t := if deadline ≤ s.clock then
        { s with
          bank := bank
          events := { s.events with
            pendingSet := s.events.pendingSet ||| 1024#17
            details := { s.events.details with graceZone := s.live.zone } } }
      else { s with bank := bank }
    s.promote i = ((((t.recompute.1).zoneChange 0).zoneChange 1).zoneChange 2).zoneChange 3)
  ∧ ∀ (s : State) (i : LinkId),
    let l := s.link i
    let scan := { l with
      state := .scan, cursor := 0, tracked := none, quality := none, demoteCounter := 0, trackMonitor := none
      carryMonitor := none
      dwell := if s.candidates i ≠ [] ∧ s.runState = .running then some (l.scanDwell * 100000) else none }
    let track := { l with
      state := .track, carryMonitor := none, demoteCounter := 0, trackMonitor := some (l.trackTime * 1000000) }
    (l.state = .off ∨ (l.kind ≠ .shore ∧ l.state ≠ .carry) → s.zoneChange i = s)
    ∧ (l.state = .scan → l.kind = .shore →
        s.zoneChange i = s.setLink i { l with
          cursor := 0
          dwell := if s.candidates i ≠ [] ∧ s.runState = .running then some (l.scanDwell * 100000) else none })
    ∧ (∀ operator, l.state = .track → l.kind = .shore → l.tracked = some operator →
        (∀ before after, s.candidates i = before ++ operator :: after → operator ∉ before →
          s.zoneChange i = s.setLink i { l with cursor := before.length })
        ∧ (operator ∉ s.candidates i → s.zoneChange i = { s.setLink i scan with events := { s.events with
            pendingSet := s.events.pendingSet ||| 16#17
            details := { s.events.details with lostSlot := some i } } }))
    ∧ (l.state = .carry → s.eligible i = true → s.zoneChange i = s)
    ∧ (l.state = .carry → s.eligible i = false →
        let t := (s.setLink i track).joinLost i
        s.zoneChange i = { t with events := { t.events with
          pendingSet := t.events.pendingSet ||| 32#17
          details := { t.events.details with lapsedSlot := some i } } })

/-- ENTER_ZONE: the present zone becomes the zone entered in every case; the LIVE zone is UNCHANGED; the zone of the
STAGED or the GRACE slot makes that slot LIVE; any other zone raises PROFILE_MISSING. A grace expiry frees the GRACE
slot whose deadline is reached, with GRACE_ENDED. -/
def Obligations.ZonesEntered : Prop :=
  ∀ s : State, BankInv s.bank →
    (∀ (r : RequesterId) (m : Message) (z : Nat), s.Serves r m (.enterZone z) →
      let t := { s with bank := { s.bank with presentZone := z } }
      let answer := fun (t : State) (case : Nat) =>
        octets 1 case ++ octets 2 z ++ octets 1 t.liveSlot.val ++ octets 2 t.live.zone
          ++ optOctets 1 ((t.slotIn .grace).map (·.val)) ++ optOctets 2 (t.zoneIn .grace)
          ++ optOctets 4 t.bank.graceDeadline ++ optOctets 1 ((t.slotIn .staged).map (·.val))
          ++ optOctets 2 (t.zoneIn .staged) ++ octets 1 t.coverage.mode.code
      let missing := { t with events := { t.events with
        pendingSet := t.events.pendingSet ||| 32768#17
        details := { t.events.details with missingZone := z } } }
      (z = s.live.zone → exec .enterZone s = .next (t.finish r m ⟨.unchanged, answer t 0⟩))
      ∧ (∀ i, (s.bank.slots.get i).role = .staged → (s.bank.slots.get i).zone = z →
          exec .enterZone s = .next ((t.promote i).finish r m ⟨.ok, answer (t.promote i) 1⟩))
      ∧ (∀ i, (s.bank.slots.get i).role = .grace → (s.bank.slots.get i).zone = z →
          exec .enterZone s = .next ((t.promote i).finish r m ⟨.ok, answer (t.promote i) 2⟩))
      ∧ (z ≠ s.live.zone →
          (∀ i, (s.bank.slots.get i).role = .staged ∨ (s.bank.slots.get i).role = .grace →
            (s.bank.slots.get i).zone ≠ z) →
          exec .enterZone s = .next (missing.finish r m ⟨.ok, answer missing 3⟩)))
    ∧ ∀ (i : ProfileId) (d : Nat), (s.bank.slots.get i).role = .grace → s.bank.graceDeadline = some d → d ≤ s.clock →
      exec .graceExpiry s = .next
        { s with
          bank := { s.bank with slots := s.bank.slots.set i (ProfileSlot.cleared .free), graceDeadline := none }
          events := { s.events with
            pendingSet := s.events.pendingSet ||| 1024#17
            details := { s.events.details with graceZone := (s.bank.slots.get i).zone } } }.conclude

/-! ## Coverage Control -/

/-- The recomputation: the target is the quieter of the LIVE permit and the ceiling; a SERVE or QUIET mode under a DARK
target becomes DARKENING and orders the DARK walk, DARKENING under a louder target cancels that walk and takes the
target, DARKENING and DARK stand under a DARK target, and every other mode becomes the target; a change raises
COVERAGE_CHANGED with the new mode. SET_CEILING sets the ceiling and recomputes, or is UNCHANGED where the ceiling is the
same; the fields of that answer and its CONTINUING are the model's reading (notes/assumptions/14.md). -/
def Obligations.CeilingAndRecomputation : Prop :=
  ∀ s : State,
    let changed := fun (s : State) (mode : Mode) =>
      { s with
        coverage := { s.coverage with mode := mode }
        events := { s.events with
          pendingSet := s.events.pendingSet ||| 2048#17
          details := { s.events.details with coverageMode := some mode } } }
    let named := fun (p : Permit) => match p with | .serve => Mode.serve | .quiet => .quiet | .dark => .dark
    let target := if s.live.permit = .dark ∨ s.coverage.ceiling = .dark then Permit.dark
      else if s.live.permit = .quiet ∨ s.coverage.ceiling = .quiet then .quiet else .serve
    let darkening := changed s .darkening
    s.target = target
    ∧ (target = .dark → (s.coverage.mode = .serve ∨ s.coverage.mode = .quiet) →
        s.recompute = ({ darkening with migration := s.migration.order (decide (s.hold.state = HoldState.held)) .dark }, .ordered))
    ∧ (target = .dark → s.coverage.mode = .darkening → s.recompute = (s, .continuing))
    ∧ (target = .dark → s.coverage.mode = .dark → s.recompute = (s, .none))
    ∧ (target ≠ .dark → s.coverage.mode = .darkening →
        s.recompute = (changed { s with migration := s.migration.withdraw (decide (s.hold.state = HoldState.held)) .dark }
          (named target), .cancelled))
    ∧ (target ≠ .dark → s.coverage.mode = named target → s.recompute = (s, .none))
    ∧ (target ≠ .dark → s.coverage.mode ≠ .darkening → s.coverage.mode ≠ named target →
        s.recompute = (changed s (named target), .none))
    ∧ ∀ (r : RequesterId) (m : Message) (ceiling : Permit), s.Serves r m (.setCeiling ceiling) →
      let t := { s with coverage := { s.coverage with ceiling := ceiling } }
      let fields := fun (t : State) (report : DarkReport) => octets 1 t.coverage.ceiling.code
        ++ octets 1 t.live.permit.code ++ octets 1 t.target.code ++ octets 1 t.coverage.mode.code
        ++ octets 1 report.code
      (ceiling = s.coverage.ceiling → exec .setCeiling s = .next (s.finish r m
        ⟨.unchanged, fields s (if s.target = .dark ∧ s.migration.present .dark = true then .continuing else .none)⟩))
      ∧ (ceiling ≠ s.coverage.ceiling → exec .setCeiling s = .next
          (t.recompute.1.finish r m ⟨.ok, fields t.recompute.1 t.recompute.2⟩))

/-! ## The Link Supervisor -/

/-- CONFIGURE_LINK: each setting is held to its range. A slot in OFF given a kind scans from the top of its list; the
kind NONE turns a slot OFF; another kind, and for a SAT slot another SAT operator than it scans for or tracks, takes a
slot from SCAN or TRACK back to the top; a slot in CARRY leaves it only for another kind, and then joins the lost set;
every other slot keeps its link state. The carry monitor time is the base times f1 times f2, a product of 1 taken as
2; its unit in the answer is the model's reading (notes/assumptions/9.md). -/
def Obligations.ConfigureLinkServed : Prop :=
  (∀ (s : State) (r : RequesterId) (m : Message) (i : LinkId) (kind : LinkKind)
      (operator dwell track base f1 f2 threshold count : Nat),
    s.Serves r m (.configureLink i kind operator dwell track base f1 f2 threshold count) →
    let l := s.link i
    let atLeast1 := fun (n : Nat) => if n = 0 then 1 else n
    let set : LinkSlot := { l with
      kind := kind, satOperator := min operator 999999, scanDwell := atLeast1 dwell, trackTime := atLeast1 track
      carryBase := if base = 0 then .ms10 else .ms100, f1 := atLeast1 f1, f2 := atLeast1 f2
      demoteThreshold := min threshold 63, demoteCount := if count = 0 then 1 else min count 15 }
    let list := match kind with
      | .unused => []
      | .shore => s.live.candidates.get i
      | .sat => [min operator 999999]
    let off : LinkSlot := { set with
      state := .off, cursor := 0, tracked := none, quality := none, demoteCounter := 0, dwell := none
      trackMonitor := none, carryMonitor := none }
    let scan : LinkSlot := { off with
      state := .scan
      dwell := if list ≠ [] ∧ s.runState = .running then some (set.scanDwell * 100000) else none }
    let newOperator := kind = .sat ∧ min operator 999999 ≠ l.satOperator
    let served := fun (t : State) =>
      let n := t.link i
      exec .configureLink s = .next (t.finish r m
        ⟨.ok, octets 1 i.val ++ octets 1 n.kind.code ++ octets 3 n.satOperator ++ octets 1 n.scanDwell
          ++ octets 1 n.trackTime ++ octets 1 n.carryBase.code ++ octets 1 n.f1 ++ octets 1 n.f2
          ++ octets 1 n.demoteThreshold ++ octets 1 n.demoteCount ++ octets 3 n.carryMs ++ octets 1 n.state.code
          ++ optOctets 3 (t.tryOperator i) ++ octets 1 (flagOctet (t.isLost i))⟩)
    (l.state = .off → kind = .unused ∨ kind = l.kind → served (s.setLink i set))
    ∧ (l.state = .off → kind ≠ .unused → kind ≠ l.kind → served (s.setLink i scan))
    ∧ (l.state = .scan ∨ l.state = .track → kind = .unused → served (s.setLink i off))
    ∧ (l.state = .scan → kind ≠ .unused → kind ≠ l.kind ∨ newOperator → served (s.setLink i scan))
    ∧ (l.state = .scan → kind ≠ .unused → kind = l.kind → ¬newOperator → served (s.setLink i set))
    ∧ (l.state = .track → kind ≠ .unused →
        kind ≠ l.kind ∨ (newOperator ∧ l.tracked ≠ some (min operator 999999)) → served (s.setLink i scan))
    ∧ (l.state = .track → kind ≠ .unused → kind = l.kind →
        ¬(newOperator ∧ l.tracked ≠ some (min operator 999999)) → served (s.setLink i set))
    ∧ (l.state = .carry → kind = .unused → served ((s.setLink i off).joinLost i))
    ∧ (l.state = .carry → kind ≠ .unused → kind ≠ l.kind → served ((s.setLink i scan).joinLost i))
    ∧ (l.state = .carry → kind ≠ .unused → kind = l.kind → served (s.setLink i set)))
  ∧ ∀ l : LinkSlot,
    let base := if l.carryBase = .ms10 then 10 else 100
    (l.f1 = 1 → l.f2 = 1 → l.carryMs = base * 2)
    ∧ (1 ≤ l.f1 → 1 ≤ l.f2 → ¬(l.f1 = 1 ∧ l.f2 = 1) → l.carryMs = base * l.f1 * l.f2)

/-- PROBE_RESULT: refused in OFF. In SCAN an OK result for the operator tried enters TRACK with LINK_FOUND, a FAIL
advances the cursor, and an OK result for another operator or any result with an empty list changes nothing. In TRACK an
OK result for the tracked operator restarts the track monitor. In CARRY such a result of a quality not below the demote
threshold restarts the carry monitor and clears the counter; any other result counts up, and at the demote count the
slot enters TRACK, joins the lost set and raises LINK_WEAK, with the slot. -/
def Obligations.ProbeResultServed : Prop :=
  ∀ (s : State) (r : RequesterId) (m : Message) (i : LinkId) (success : Bool) (quality operator : Nat),
    s.Serves r m (.probeResult i success quality operator) →
    let l := s.link i
    let list := s.candidates i
    let served := fun (t : State) =>
      let n := t.link i
      exec .probeResult s = .next (t.finish r m
        ⟨.ok, octets 1 i.val ++ octets 1 n.kind.code ++ octets 1 n.state.code ++ optOctets 3 (t.tryOperator i)
          ++ optOctets 1 n.quality ++ octets 1 n.demoteCounter ++ octets 1 (flagOctet (t.isLost i))
          ++ octets 1 (flagOctet (t.eligible i))⟩)
    let heard := success = true ∧ l.tracked = some operator
    let weak := { l with
      demoteCounter := l.demoteCounter + 1, quality := if heard then some quality else l.quality }
    let demoted := { weak with
      state := .track, carryMonitor := none, demoteCounter := 0, trackMonitor := some (l.trackTime * 1000000) }
    (l.state = .off → exec .probeResult s = .next (s.finish r m ⟨.wrongState, octets 1 0 ++ optOctets 3 none⟩))
    ∧ (l.state = .scan → success = true → list[l.cursor]? = some operator →
        served { s.setLink i { l with
            state := .track, dwell := none, tracked := some operator, quality := some quality
            trackMonitor := some (l.trackTime * 1000000) } with
          events := { s.events with
            pendingSet := s.events.pendingSet ||| 8#17
            details := { s.events.details with foundSlot := some i } } })
    ∧ (l.state = .scan → success = true → list[l.cursor]? ≠ some operator → served s)
    ∧ (l.state = .scan → success = false → list ≠ [] →
        served (s.setLink i { l with
          cursor := if l.cursor + 1 < list.length then l.cursor + 1 else 0, dwell := some (l.scanDwell * 100000) }))
    ∧ (l.state = .scan → success = false → list = [] → served s)
    ∧ (l.state = .track → heard →
        served (s.setLink i { l with trackMonitor := some (l.trackTime * 1000000), quality := some quality }))
    ∧ (l.state = .track → ¬heard → served s)
    ∧ (l.state = .carry → heard → l.demoteThreshold ≤ quality →
        served (s.setLink i { l with
          carryMonitor := some (l.carryMs * 1000), demoteCounter := 0, quality := some quality }))
    ∧ (l.state = .carry → ¬(heard ∧ l.demoteThreshold ≤ quality) → l.demoteCounter + 1 < l.demoteCount →
        served (s.setLink i weak))
    ∧ (l.state = .carry → ¬(heard ∧ l.demoteThreshold ≤ quality) → l.demoteCount ≤ l.demoteCounter + 1 →
        let t := (s.setLink i demoted).joinLost i
        served { t with events := { t.events with
          pendingSet := t.events.pendingSet ||| 64#17
          details := { t.events.details with weakSlot := some i } } })

/-- The expiries of a link slot's timers: the dwell moves the scan cursor one place, wrapping at the end of the list,
and restarts; the track monitor takes the slot back to SCAN at the top of its list with LINK_LOST; the carry monitor
demotes it to TRACK, into the lost set, with LINK_LAPSED; each of the two with the slot. A monitor expires with no time
left, and with time left it does not (`Obligations.CommandNotDueWaits`); that a running dwell's expiry is taken whatever
time is left is the model's choice (notes/assumptions/2.md). -/
def Obligations.LinkTimersExpire : Prop :=
  ∀ (s : State) (i : LinkId),
    let l := s.link i
    let list := s.candidates i
    (l.state = .scan → l.dwell ≠ none →
      exec (.dwellExpiry i) s = .next (s.setLink i { l with
        cursor := if l.cursor + 1 < list.length then l.cursor + 1 else 0
        dwell := some (l.scanDwell * 100000) }).conclude)
    ∧ (l.state = .track → l.trackMonitor = some 0 →
      exec (.trackMonitorExpiry i) s = .next (State.conclude { s.setLink i { l with
          state := .scan, cursor := 0, tracked := none, quality := none, demoteCounter := 0, trackMonitor := none
          carryMonitor := none
          dwell := if list ≠ [] ∧ s.runState = .running then some (l.scanDwell * 100000) else none } with
        events := { s.events with
          pendingSet := s.events.pendingSet ||| 16#17
          details := { s.events.details with lostSlot := some i } } }))
    ∧ (l.state = .carry → l.carryMonitor = some 0 →
      let t := (s.setLink i { l with
        state := .track, carryMonitor := none, demoteCounter := 0
        trackMonitor := some (l.trackTime * 1000000) }).joinLost i
      exec (.carryMonitorExpiry i) s = .next (State.conclude { t with events := { t.events with
        pendingSet := t.events.pendingSet ||| 32#17
        details := { t.events.details with lapsedSlot := some i } } }))

/-- OPEN_LINK puts an eligible slot in TRACK that is not lost into CARRY, its carry monitor started, and orders UNPARK
where contexts are parked; CLOSE_LINK takes a slot from CARRY to TRACK and into the lost set, with no event; every other
slot is refused. The tracked operator and the last quality with no presence octet, and the unit of the carry monitor time,
are the model's readings (notes/assumptions/9.md). -/
def Obligations.LinksOpenedAndClosed : Prop :=
  ∀ (s : State) (r : RequesterId) (m : Message) (i : LinkId),
    let l := s.link i
    (s.Serves r m (.openLink i) →
      let t := s.setLink i { l with
        state := .carry, trackMonitor := none, carryMonitor := some (l.carryMs * 1000), demoteCounter := 0 }
      let body := octets 1 i.val ++ octets 3 (l.tracked.getD 0) ++ octets 1 (l.quality.getD 0) ++ octets 3 l.carryMs
      (l.state ≠ .track → exec .openLink s = .next (s.finish r m ⟨.wrongState, []⟩))
      ∧ (l.state = .track → s.eligible i = false → exec .openLink s = .next (s.finish r m ⟨.ineligible, []⟩))
      ∧ (l.state = .track → s.eligible i = true → s.isLost i = true →
          exec .openLink s = .next (s.finish r m ⟨.wrongState, []⟩))
      ∧ (l.state = .track → s.eligible i = true → s.isLost i = false → s.migration.parkedTotal = 0 →
          exec .openLink s = .next (t.finish r m ⟨.ok, body ++ octets 1 0⟩))
      ∧ (l.state = .track → s.eligible i = true → s.isLost i = false → 0 < s.migration.parkedTotal →
          exec .openLink s = .next ((t.order .unpark).finish r m ⟨.ok, body ++ octets 1 1⟩)))
    ∧ (s.Serves r m (.closeLink i) →
      (l.state ≠ .carry → exec .closeLink s = .next (s.finish r m ⟨.wrongState, []⟩))
      ∧ (l.state = .carry → exec .closeLink s = .next
          (((s.setLink i { l with
            state := .track, carryMonitor := none, demoteCounter := 0
            trackMonitor := some (l.trackTime * 1000000) }).joinLost i).finish r m ⟨.ok, octets 1 i.val ++ octets 1 2⟩)))

/-! ## Routes and migration -/

/-- Orders, the next walk, and a walk taken back. An order with no walk in progress starts its walk at handle 0, or is
pending under the hold; with a walk in progress it is pending, but a FAILOVER order suspends a walk of another kind and
starts, and resets a FAILOVER walk's end mark to its cursor. The next walk is the suspended one, else the first pending
order in the order FAILOVER, DARK, SHIFT, UNPARK where no hold is granted, else none. A kind withdrawn stands in no
place, and where it was in progress the next walk is chosen. -/
def Obligations.WalksOrderedAndChosen : Prop :=
  ∀ (g : Migration) (held : Bool) (k : WalkKind),
    let parked := fun (k : WalkKind) => if k = .failover then 0 else g.parkedCount
    let pending : WalkKind → Bool := fun
      | .failover => g.orders.failover
      | .dark => g.orders.dark
      | .shift => g.orders.shift
      | .unpark => g.orders.unpark
    (g.walk = none → held = false →
      g.order held k = { g with walk := some ⟨k, 0, 0⟩, parkedCount := parked k })
    ∧ ((g.walk = none ∧ held = true) ∨ (g.walk ≠ none ∧ k ≠ .failover) →
        g.order held k = { g with orders := {
          failover := g.orders.failover || decide (k = .failover), dark := g.orders.dark || decide (k = .dark)
          shift := g.orders.shift || decide (k = .shift), unpark := g.orders.unpark || decide (k = .unpark) } })
    ∧ (∀ w, g.walk = some w → w.kind ≠ .failover →
        g.order held .failover = { g with suspended := some w, walk := some ⟨.failover, 0, 0⟩, parkedCount := 0 })
    ∧ (∀ w, g.walk = some w → w.kind = .failover →
        g.order held .failover = { g with walk := some { w with endMark := w.cursor } })
    ∧ (∀ w, g.suspended = some w → g.next held = { g with walk := some w, suspended := none })
    ∧ (g.suspended = none → held = true ∨ (∀ k, pending k = false) → g.next held = { g with walk := none })
    ∧ (g.suspended = none → held = false → pending k = true →
        (∀ k' ∈ [WalkKind.failover, .dark, .shift, .unpark].takeWhile (· ≠ k), pending k' = false) →
        g.next held = { g with
          walk := some ⟨k, 0, 0⟩, parkedCount := parked k
          orders := {
            failover := g.orders.failover && decide (k ≠ .failover), dark := g.orders.dark && decide (k ≠ .dark)
            shift := g.orders.shift && decide (k ≠ .shift), unpark := g.orders.unpark && decide (k ≠ .unpark) } })
    ∧ (let cleared := { g with
          orders := {
            failover := g.orders.failover && decide (k ≠ .failover), dark := g.orders.dark && decide (k ≠ .dark)
            shift := g.orders.shift && decide (k ≠ .shift), unpark := g.orders.unpark && decide (k ≠ .unpark) }
          suspended := if g.suspended.map (·.kind) = some k then none else g.suspended }
      g.withdraw held k =
        if g.walk.map (·.kind) = some k then { cleared with walk := none }.next held else cleared)

/-- A slot that joins the lost set places a FAILOVER order, and a SHIFT from or to that slot is aborted: the record and
the draining slot are cleared, its walk or order is withdrawn, and SHIFT_ABORTED is raised with the moved count. -/
def Obligations.LostSlotsJoin : Prop :=
  ∀ (s : State) (i : LinkId),
    let held := decide (s.hold.state = HoldState.held)
    let joined := ({ s.migration with lost := s.migration.lost.set i true } : Migration).order held .failover
    ((∀ x, s.migration.shift = some x → x.src ≠ i ∧ x.dst ≠ i) → s.joinLost i = { s with migration := joined })
    ∧ ∀ x, s.migration.shift = some x → (x.src = i ∨ x.dst = i) →
      s.joinLost i = { s with
        migration := ({ joined with shift := none, draining := none } : Migration).withdraw held .shift
        events := { s.events with
          pendingSet := s.events.pendingSet ||| 256#17
          details := { s.events.details with abortMoved := x.moved } } }

/-- SET_ROUTE replaces the default list, or adds or replaces a home entry, refused with FULL where a new entry finds 64
entries, and orders UNPARK where contexts are parked; CLEAR_ROUTE removes a home entry, and is refused with BAD_FIELD for
DEFAULT and with NO_ENTRY where there is none; READ_ROUTE reports the list that applies and changes nothing. -/
def Obligations.RoutesServed : Prop :=
  ∀ (s : State) (r : RequesterId) (m : Message),
    let own := fun (code : Nat) => (s.routes.homes.find? (fun e => e.1 = code)).map (·.2)
    let parked := decide (0 < s.migration.parkedTotal)
    let unparked := fun (t : State) => if parked = true then t.order .unpark else t
    let listed := fun (list : List LinkId) => octets 1 list.length ++ list.flatMap (fun i => octets 1 i.val)
    let others := fun (code : Nat) => s.routes.homes.filter (fun e => e.1 ≠ code)
    (∀ list, s.Serves r m (.setRoute .default list) →
      exec .setRoute s = .next ((unparked { s with routes := { s.routes with default := list } }).finish r m
        ⟨.ok, octets 1 1 ++ octets 3 0 ++ listed list ++ octets 1 0 ++ octets 1 s.routes.homes.length
          ++ octets 1 (flagOctet parked)⟩))
    ∧ (∀ code list, s.Serves r m (.setRoute (.home code) list) →
      (own code = none → 64 ≤ s.routes.homes.length → exec .setRoute s = .next (s.finish r m ⟨.full, []⟩))
      ∧ (own code ≠ none ∨ s.routes.homes.length < 64 →
          ∃ homes : List (Nat × List LinkId),
            (∃ before after, others code = before ++ after ∧ homes = before ++ (code, list) :: after
              ∧ (∀ e ∈ before, e.1 < code) ∧ (∀ e, after.head? = some e → code < e.1))
            ∧ exec .setRoute s = .next ((unparked { s with routes := { s.routes with homes := homes } }).finish r m
              ⟨.ok, octets 1 0 ++ octets 3 code ++ listed list ++ octets 1 (flagOctet (decide (own code = none)))
                ++ octets 1 homes.length ++ octets 1 (flagOctet parked)⟩)))
    ∧ (s.Serves r m (.clearRoute .default) → exec .clearRoute s = .next (s.finish r m ⟨.badField, []⟩))
    ∧ (∀ code, s.Serves r m (.clearRoute (.home code)) →
      (own code = none → exec .clearRoute s = .next (s.finish r m ⟨.noEntry, []⟩))
      ∧ (own code ≠ none → exec .clearRoute s = .next
          ({ s with routes := { s.routes with homes := others code } }.finish r m
            ⟨.ok, octets 3 code ++ octets 1 (others code).length⟩)))
    ∧ (s.Serves r m (.readRoute .default) →
      exec .readRoute s = .next (s.finish r m
        ⟨.ok, listed s.routes.default ++ octets 1 1 ++ octets 1 s.routes.homes.length⟩))
    ∧ (∀ code, s.Serves r m (.readRoute (.home code)) →
      (∀ list, own code = some list → exec .readRoute s = .next (s.finish r m
        ⟨.ok, listed list ++ octets 1 0 ++ octets 1 s.routes.homes.length⟩))
      ∧ (own code = none → exec .readRoute s = .next (s.finish r m
        ⟨.ok, listed s.routes.default ++ octets 1 1 ++ octets 1 s.routes.homes.length⟩)))

/-- SHIFT with its refusals in their order; taken, it holds its record, drains the from-slot and orders the walk.
ABORT_SHIFT aborts the SHIFT that is present, wherever it stands, with SHIFT_ABORTED. -/
def Obligations.ShiftServed : Prop :=
  ∀ (s : State) (r : RequesterId) (m : Message),
    (∀ src dst, s.Serves r m (.shift src dst) →
      let refused := fun (st : Status) => exec .shift s = .next (s.finish r m ⟨st, []⟩)
      let t := { s with migration := { s.migration with shift := some ⟨src, dst, 0⟩, draining := some src } }.order .shift
      (s.migration.shift ≠ none → refused .engineBusy)
      ∧ (s.migration.shift = none → (s.link dst).state ≠ .carry → refused .wrongState)
      ∧ (s.migration.shift = none → (s.link dst).state = .carry → s.eligible dst = false → refused .ineligible)
      ∧ (s.migration.shift = none → (s.link dst).state = .carry → s.eligible dst = true → s.isLost src = true →
          refused .wrongState)
      ∧ (s.migration.shift = none → (s.link dst).state = .carry → s.eligible dst = true → s.isLost src = false →
          exec .shift s = .next (t.finish r m
            ⟨.ok, octets 1 src.val ++ octets 1 dst.val ++ octets 1 (flagOctet t.migration.orders.shift)
              ++ octets 2 (s.store.routeCounts.get src)⟩)))
    ∧ (s.Serves r m .abortShift →
      (s.migration.shift = none → exec .abortShift s = .next (s.finish r m ⟨.wrongState, []⟩))
      ∧ ∀ x, s.migration.shift = some x →
        exec .abortShift s = .next ({ s with
          migration := ({ s.migration with shift := none, draining := none } : Migration).withdraw
            (decide (s.hold.state = HoldState.held)) .shift
          events := { s.events with
            pendingSet := s.events.pendingSet ||| 256#17
            details := { s.events.details with abortMoved := x.moved } } }.finish r m
          ⟨.ok, octets 1 x.src.val ++ octets 1 x.dst.val ++ octets 2 x.moved⟩))

/-- A granted step of a walk does its kind's work on the context at the cursor, then advances the cursor, past 2047 to
0; where the cursor reaches the end mark the walk completes by the rule of its kind and the next walk is chosen.
FAILOVER: a routed context on a lost slot is bound to the slot selected, or parks with its bearers as they stood; the
completion empties the lost set, and raises FAILOVER_DONE, and BACKHAUL_LOST where no slot carries and contexts are
parked. UNPARK: a PARKED context is restored to the slot selected. SHIFT: a routed context on the from-slot is bound to
the to-slot; the completion clears the record and raises SHIFT_DONE. DARK: every bearer of a CARRYING or PARKED context
closes; the completion makes the mode DARK. Every other context is left as it is. -/
def Obligations.WalkStepsTaken : Prop :=
  ∀ (s : State) (w : Walk), s.migration.walk = some w → s.arbiter = .granted (.walk w.kind) →
    let h := w.cursor
    let c := s.ctx h
    let idle := min (s.clock + s.limits.idle) 4294967295
    let next := h + 1
    let stepped := fun (worked : State) (completed : State → State) =>
      { (if next = w.endMark then completed worked
          else { worked with migration := { worked.migration with walk := some { w with cursor := next } } }) with
        arbiter := .idle }.conclude
    let routed := c.state = .idle ∨ c.state = .carrying
    let failoverDone := fun (t : State) =>
      let backhaul := (∀ i, (t.link i).state ≠ .carry) ∧ 0 < t.migration.parkedTotal
      { t with
        migration := { t.migration with lost := ⟨false, false, false, false⟩, parkedCount := 0 }
        events := { t.events with
          pendingSet := t.events.pendingSet ||| 512#17 ||| (if backhaul then 65536#17 else 0#17)
          details := { t.events.details with failoverParked := t.migration.parkedCount } } }.nextWalk
    let shiftDone := fun (t : State) (moved : Nat) =>
      { t with
        migration := { t.migration with shift := none, draining := none }
        events := { t.events with
          pendingSet := t.events.pendingSet ||| 128#17
          details := { t.events.details with shiftMoved := moved } } }.nextWalk
    let darkDone := fun (t : State) =>
      { t with
        coverage := { t.coverage with mode := .dark }
        events := { t.events with
          pendingSet := t.events.pendingSet ||| 2048#17
          details := { t.events.details with coverageMode := some .dark } } }.nextWalk
    (w.kind = .failover →
      ((¬routed ∨ ∀ i, c.route = some i → s.isLost i = false) →
        exec .failoverStep s = .next (stepped s failoverDone))
      ∧ ∀ lost, routed → c.route = some lost → s.isLost lost = true →
        (∀ i, s.selectRoute c.home = some i →
          exec .failoverStep s = .next (stepped (s.commit h { c with route := some i }) failoverDone))
        ∧ (s.selectRoute c.home = none →
          let t := s.commit h { c with
            state := .parked, route := none, deadline := some (min (s.clock + s.live.parkLimit) 4294967295) }
          exec .failoverStep s = .next (stepped
            { t with migration := { t.migration with parkedCount := t.migration.parkedCount + 1 } } failoverDone)))
    ∧ (w.kind = .unpark →
      (c.state ≠ .parked ∨ s.selectRoute c.home = none → exec .unparkStep s = .next (stepped s State.nextWalk))
      ∧ ∀ i, c.state = .parked → s.selectRoute c.home = some i →
        (c.voiceOpen = false → c.dataOpen = false → exec .unparkStep s = .next
          (stepped (s.commit h { c with state := .idle, route := some i, deadline := some idle }) State.nextWalk))
        ∧ (c.voiceOpen = true ∨ c.dataOpen = true → exec .unparkStep s = .next
          (stepped (s.commit h { c with state := .carrying, route := some i, deadline := none }) State.nextWalk)))
    ∧ (w.kind = .shift → ∀ x, s.migration.shift = some x →
      (¬(routed ∧ c.route = some x.src) → exec .shiftStep s = .next (stepped s (fun t => shiftDone t x.moved)))
      ∧ (routed → c.route = some x.src →
        let t := s.commit h { c with route := some x.dst }
        exec .shiftStep s = .next (stepped
          { t with migration := { t.migration with shift := some { x with moved := x.moved + 1 } } }
          (fun t => shiftDone t (x.moved + 1)))))
    ∧ (w.kind = .dark →
      (c.state ≠ .carrying → c.state ≠ .parked → exec .darkStep s = .next (stepped s darkDone))
      ∧ (c.state = .carrying → exec .darkStep s = .next (stepped
          (s.commit h { c with
            voiceOpen := false, voiceEmergency := false, dataOpen := false, state := .idle
            deadline := some idle }) darkDone))
      ∧ (c.state = .parked → exec .darkStep s = .next (stepped
          (s.commit h { c with voiceOpen := false, voiceEmergency := false, dataOpen := false }) darkDone)))

/-! ## Events -/

/-- READ_EVENTS reports the sets, the details, the quiet time left and the line, and changes nothing; SET_EVENT_MASK
replaces the mask; ACK_EVENTS clears the pending events of its set whose numbers are 0 to 12, and with its end flag
starts the quiet timer where the quiet time is above 0 and leaves the line inactive, unless a hold timer expiry that
waited for the answer is taken behind it, as an event of its own that the line follows; the quiet timer's expiry stops
it. The line that READ_EVENTS reports is the one its condition gives. The width of the quiet time in the report, the
order of the details in the answer to ACK_EVENTS and that no count stands ahead of them (notes/assumptions/9.md), and
what a quiet time of 0 leaves (notes/assumptions/11.md), are the model's readings; that a running quiet timer's expiry is
taken whatever time is left on it is its choice (notes/assumptions/2.md). -/
def Obligations.EventRequestsServed : Prop :=
  ∀ (s : State) (r : RequesterId) (m : Message),
    let e := s.events
    let d := e.details
    (s.Serves r m .readEvents →
      exec .readEvents s = .next (s.finish r m
        ⟨.ok, octets 3 e.pendingSet.toNat ++ octets 3 e.mask.toNat ++ octets 2 d.retiredHandle.val
          ++ optOctets 1 (d.retiredCause.map Cause.code) ++ octets 2 d.spentHandle.val ++ octets 1 d.spentTag.toNat
          ++ octets 2 d.capHandle.val ++ optOctets 1 (d.foundSlot.map (·.val)) ++ optOctets 1 (d.lostSlot.map (·.val))
          ++ optOctets 1 (d.lapsedSlot.map (·.val)) ++ optOctets 1 (d.weakSlot.map (·.val)) ++ octets 2 d.shiftMoved
          ++ octets 2 d.abortMoved ++ octets 2 d.failoverParked ++ octets 2 d.graceZone
          ++ optOctets 1 (d.coverageMode.map Mode.code) ++ octets 2 d.missingZone ++ optOctets 2 e.quiet
          ++ octets 1 (if e.quiet = none ∧ e.pendingSet &&& ~~~e.mask ≠ 0 then 1 else 0)⟩))
    ∧ (∀ mask, s.Serves r m (.setEventMask mask) →
      exec .setEventMask s = .next ({ s with events := { e with mask := mask } }.finish r m
        ⟨.ok, octets 3 mask.toNat
          ++ octets 1 (if e.quiet = none ∧ e.pendingSet &&& ~~~mask ≠ 0 then 1 else 0)⟩))
    ∧ (∀ set endService, s.Serves r m (.ackEvents set endService) →
      let cleared := set &&& e.pendingSet &&& 8191#17
      let left := e.pendingSet &&& ~~~cleared
      let micros := match s.limits.quiet with | .zero => 0 | .us50 => 50 | .ms1 => 1000 | .ms10 => 10000
      let acked := { s with events := { e with
        pendingSet := left
        quiet := if endService = true ∧ 0 < micros then some micros else e.quiet } }
      let line := endService = false ∧ e.quiet = none ∧ left &&& ~~~e.mask ≠ 0
      let details := (allEvents.filter (fun v => cleared.getLsbD v.num)).flatMap d.octets
      let t := acked.finish r m
        ⟨.ok, octets 3 cleared.toNat ++ details ++ octets 3 left.toNat ++ octets 1 (if line then 1 else 0)⟩
      exec .ackEvents s = .next
        (if endService = true ∧ ¬(s.hold.expiryDue = true ∧ s.hold.state = .held) then
            { t with events := { t.events with attention := false } }
          else t))
    ∧ (e.quiet ≠ none → exec .quietTimerExpiry s = .next { s with events := { e with quiet := none } }.conclude)

/-! ## Start-up, limits and status -/

/-- SET_LIMITS replaces the five limits, each held to its range, and reports which were; START is refused in RUNNING and
otherwise makes the part RUNNING and starts the dwell of every slot in SCAN whose list is not empty; READ_STATUS reports
and changes nothing. The model's readings here: the codes of the hold states in the report (notes/assumptions/10.md),
its walk kind and cursor of 0 with no walk and its presence octets for GRACE and STAGED, and the order of SET_LIMITS'
answer, five values and then five flags (notes/assumptions/9.md). -/
def Obligations.LimitsStartAndStatus : Prop :=
  ∀ (s : State) (r : RequesterId) (m : Message),
    let limitOctets := fun (l : Limits) => octets 2 l.probation ++ octets 4 l.idle ++ octets 2 l.linger
      ++ octets 2 l.hold ++ octets 1 l.quiet.code
    (∀ probation idle linger hold quiet, s.Serves r m (.setLimits probation idle linger hold quiet) →
      let held := fun (low high v : Nat) => if v < low then low else if high < v then high else v
      let changed := fun (low high v : Nat) => octets 1 (if v < low ∨ high < v then 1 else 0)
      let l : Limits := ⟨held 5 120 probation, held 60 86400 idle, held 0 600 linger, held 1 2000 hold,
        if quiet = 0 then .zero else if quiet = 1 then .us50 else if quiet = 2 then .ms1 else .ms10⟩
      exec .setLimits s = .next ({ s with limits := l }.finish r m
        ⟨.ok, limitOctets l ++ changed 5 120 probation ++ changed 60 86400 idle ++ changed 0 600 linger
          ++ changed 1 2000 hold ++ changed 0 3 quiet⟩))
    ∧ (s.Serves r m .start →
      let dwelling := fun (i : LinkId) =>
        if (s.link i).state = .scan ∧ s.candidates i ≠ [] then
          { s.link i with dwell := some ((s.link i).scanDwell * 100000) }
        else s.link i
      (s.runState = .running → exec .start s = .next (s.finish r m ⟨.wrongState, []⟩))
      ∧ (s.runState = .configuring → exec .start s = .next
          ({ s with
            runState := .running
            links := ⟨dwelling 0, dwelling 1, dwelling 2, dwelling 3⟩ }.finish r m
            ⟨.ok, octets 4 s.clock ++ octets 2 s.live.zone ++ octets 2 s.bank.presentZone
              ++ octets 1 s.coverage.mode.code ++ limitOctets s.limits⟩)))
    ∧ (s.Serves r m .readStatus →
      let link := fun (i : LinkId) => octets 1 (s.link i).state.code ++ octets 2 (s.store.routeCounts.get i)
      exec .readStatus s = .next (s.finish r m
        ⟨.ok, octets 1 s.runState.code ++ octets 4 s.clock ++ octets 2 s.bank.presentZone ++ octets 1 s.liveSlot.val
          ++ octets 2 s.live.zone ++ optOctets 1 ((s.slotIn .grace).map (·.val)) ++ optOctets 2 (s.zoneIn .grace)
          ++ optOctets 1 ((s.slotIn .staged).map (·.val)) ++ optOctets 2 (s.zoneIn .staged)
          ++ optOctets 4 s.bank.graceDeadline ++ octets 1 s.coverage.mode.code ++ octets 1 s.coverage.ceiling.code
          ++ link 0 ++ link 1 ++ link 2 ++ link 3 ++ octets 1 (setOctet s.migration.lost)
          ++ optOctets 1 (s.migration.draining.map (·.val)) ++ octets 1 ((s.migration.walk.map (·.kind.code)).getD 0)
          ++ octets 2 ((s.migration.walk.map (·.cursor.val)).getD 0) ++ octets 2 s.migration.parkedTotal
          ++ octets 1 s.hold.state.code ++ octets 2 s.store.freeCount⟩))

/-- CLEAR_VOYAGE: every context FREE, the index, queues and counts empty and all handles free, the Migration Engine as
after reset, a DARKENING mode DARK with COVERAGE_CHANGED, and nothing else changed; the answer counts the contexts that
were not FREE and those that were in LINGER. -/
def Obligations.VoyageCleared : Prop :=
  ∀ (s : State) (r : RequesterId) (m : Message), contextsWf s.store.contexts = true → s.Serves r m .clearVoyage →
    let count := fun (p : Context → Bool) => handles.countP (fun h => p (s.ctx h))
    let darkened := decide (s.coverage.mode = .darkening)
    exec .clearVoyage s = .next ({ s with
      store := State.reset.store, migration := State.reset.migration
      coverage := if darkened then { s.coverage with mode := .dark } else s.coverage
      events := if darkened then
          { s.events with
            pendingSet := s.events.pendingSet ||| 2048#17
            details := { s.events.details with coverageMode := some .dark } }
        else s.events }.finish r m
      ⟨.ok, octets 2 (count (fun c => decide (c.state ≠ CtxState.free)))
        ++ octets 2 (count (fun c => decide (c.state = CtxState.linger)))
        ++ octets 2 2048⟩)

/-! ## What every step keeps -/

/-- Every invariant holds after reset. -/
def Obligations.ResetKeepsEveryRule : Prop :=
  StoreInv State.reset ∧ BankInv State.reset.bank ∧ CoverageInv State.reset ∧ DarkInv State.reset
    ∧ LinkInv State.reset ∧ RouteInv State.reset ∧ ArbiterInv State.reset ∧ EventInv State.reset

/-- The Context Store stays consistent: the table's canonical form, the fields of every context by its state, and the
index, queues and counts that follow the contexts. -/
def Obligations.StoreStaysConsistent : Prop :=
  ∀ s t : State, StoreInv s → step s = .next t → StoreInv t

/-- Exactly one profile slot is LIVE, at most one each is OPEN, STAGED and GRACE, no STAGED or GRACE slot holds the LIVE
zone code, and the coverage mode is never louder than the LIVE permit or the ceiling. -/
def Obligations.BankAndCoverageStayBounded : Prop :=
  ∀ s t : State, BankInv s.bank → CoverageInv s → step s = .next t → BankInv t.bank ∧ CoverageInv t

/-- Every link slot's settings stay in their ranges and its link state stays as its rules say. -/
def Obligations.LinksStayInOrder : Prop :=
  ∀ s t : State, BankInv s.bank → LinkInv s → step s = .next t → LinkInv t

/-- Every routed context stays on a slot that carries or is lost, whose FAILOVER walk is in progress or pending. -/
def Obligations.RoutesStayCarried : Prop :=
  ∀ s t : State, RouteInv s → step s = .next t → RouteInv t

/-- The DARK walk stands in one place exactly while the mode is DARKENING, and no bearer is open while it is DARK. -/
def Obligations.DarkStaysDark : Prop :=
  ∀ s t : State, StoreInv s → DarkInv s → step s = .next t → DarkInv t

/-- The Store Arbiter grants one contender that contends, or is HELD under the hold, or is IDLE where none contends, and
the request it grants the store to is SERVING. That the engine's choice is made within the event that makes it possible
(notes/assumptions/7.md), and that a grant stands between steps and is lost with its contender (notes/assumptions/8.md),
are the model's readings. -/
def Obligations.GrantStaysWithContender : Prop :=
  ∀ s t : State, ArbiterInv s → step s = .next t → ArbiterInv t

/-- The attention line and the condition-cleared events stay with their conditions, both ways: an event is pending while
its condition holds, and the line is active while its own does. After every step the line is as its condition says, but
for the end of an ACK_EVENTS that ends an attention service at a quiet time of 0, and for a step that leaves flags, mask,
quiet timer and line as that request left them (notes/assumptions/11.md). -/
def Obligations.EventsStayInStep : Prop :=
  ∀ s t : State, StoreInv s → BankInv s.bank → EventInv s → step s = .next t →
    EventInv t
    ∧ ((t.events.attention = true ↔ t.events.calls)
      ∨ (∃ rest r m set, s.pending = .ackEvents :: rest
          ∧ State.Serves { s with pending := rest } r m (.ackEvents set true)
          ∧ s.limits.quiet = .zero ∧ s.events.quiet = none)
      ∨ (¬(s.events.attention = true ↔ s.events.calls) ∧ t.events.attention = s.events.attention
          ∧ t.events.pendingSet = s.events.pendingSet ∧ t.events.mask = s.events.mask
          ∧ t.events.quiet.isSome = s.events.quiet.isSome))
end

