-- ==== Sys2Proof/Laws/Fields.lean ====
section
/-! SUPPORT. Laws of the four like things, of numbers carried in octets, and of the catalogue of request kinds. -/

namespace Sys2Proof

/-- What a four reads after one place is written. -/
theorem Four.get_set {α : Type} (f : Four α) (i j : Fin 4) (x : α) :
    (f.set i x).get j = if j = i then x else f.get j := by
  fin_cases i <;> fin_cases j <;> rfl

@[simp] theorem Four.get_set_self {α : Type} (f : Four α) (i : Fin 4) (x : α) : (f.set i x).get i = x := by
  simp [Four.get_set]

@[simp] theorem Four.get_map {α β : Type} (g : α → β) (f : Four α) (i : Fin 4) : (f.map g).get i = g (f.get i) := by
  fin_cases i <;> rfl

@[simp] theorem Four.get_all {α : Type} (x : α) (i : Fin 4) : (Four.all x).get i = x := by
  fin_cases i <;> rfl

/-- A four given place by place reads each place. -/
theorem Four.get_mk {α : Type} (f : Fin 4 → α) (i : Fin 4) : (Four.mk (f 0) (f 1) (f 2) (f 3)).get i = f i := by
  fin_cases i <;> rfl

/-- Two fours that read the same at every place are the same. -/
theorem Four.ext_get {α : Type} {f g : Four α} (h : ∀ i, f.get i = g.get i) : f = g := by
  obtain ⟨a, b, c, d⟩ := f
  have h0 := h 0
  have h1 := h 1
  have h2 := h 2
  have h3 := h 3
  simp only [Four.get] at h0 h1 h2 h3
  simp [h0, h1, h2, h3]

/-- A statement about every slot is four statements. -/
theorem forall_slot {P : Fin 4 → Prop} : (∀ i, P i) ↔ P 0 ∧ P 1 ∧ P 2 ∧ P 3 := by
  refine ⟨fun h => ⟨h 0, h 1, h 2, h 3⟩, ?_⟩
  rintro ⟨a, b, c, d⟩ i
  fin_cases i <;> assumption

/-- What a search of a list finds: the first member that passes. -/
theorem find?_first {α : Type} (p : α → Bool) (l : List α) (a : α) :
    l.find? p = some a ↔ p a = true ∧ ∃ before after, l = before ++ a :: after ∧ ∀ b ∈ before, p b = false := by
  rw [List.find?_eq_some_iff_append]
  simp

namespace Machine

@[simp] theorem octets_length (n v : Nat) : (octets n v).length = n := by
  induction n generalizing v with
  | zero => rfl
  | succ n ih => simp [octets, ih]

theorem foldl_octets (n v acc : Nat) :
    (octets n v).foldl (fun (a : Nat) (b : Byte) => a * 256 + b.toNat) acc = acc * 256 ^ n + v % 256 ^ n := by
  induction n generalizing acc with
  | zero => simp [octets, Nat.mod_one]
  | succ n ih =>
    have split : v % (256 ^ n * 256) = v % 256 ^ n + 256 ^ n * (v / 256 ^ n % 256) := Nat.mod_mul
    rw [octets, List.foldl_cons, ih, BitVec.toNat_ofNat, Nat.pow_succ 256, split]
    ring

/-- A number that fits its octets is read back from them. -/
theorem number_octets {n v : Nat} (h : v < 256 ^ n) : number (octets n v) = v := by
  rw [number, foldl_octets, Nat.zero_mul, Nat.zero_add, Nat.mod_eq_of_lt h]

/-- Fields laid out in their widths are cut apart again. -/
theorem splitFields_layFields (fields : List (Nat × Nat)) (h : ∀ f ∈ fields, f.2 < 256 ^ f.1) :
    splitFields (fields.map (·.1)) (layFields fields) = some (fields.map (·.2)) := by
  induction fields with
  | nil => rfl
  | cons f rest ih =>
    obtain ⟨w, v⟩ := f
    have hv : v < 256 ^ w := h (w, v) (by simp)
    have hl : ¬((octets w v ++ layFields rest).length < w) := by simp
    simp only [List.map_cons, layFields, splitFields, if_neg hl]
    rw [List.drop_left' (octets_length w v), List.take_left' (octets_length w v), number_octets hv,
      ih (fun f hf => h f (by simp [hf]))]
    rfl

/-- The code of a kind is that kind's alone. -/
@[simp] theorem Kind.ofCode_code (k : Kind) : Kind.ofCode k.code = some k := by cases k <;> rfl

end Machine

end Sys2Proof
end

