-- ==== Sys2Proof/Laws/State.lean ====
section
/-! SUPPORT. Each small update of the part, field by field: the block it writes and the blocks it leaves as they are. -/

namespace Sys2Proof.Machine

/-! ## One link slot replaced. -/

@[simp] theorem State.setLink_runState (s : State) (i : LinkId) (l : LinkSlot) :
    (s.setLink i l).runState = s.runState := rfl
@[simp] theorem State.setLink_clock (s : State) (i : LinkId) (l : LinkSlot) : (s.setLink i l).clock = s.clock := rfl
@[simp] theorem State.setLink_store (s : State) (i : LinkId) (l : LinkSlot) : (s.setLink i l).store = s.store := rfl
@[simp] theorem State.setLink_sweep (s : State) (i : LinkId) (l : LinkSlot) : (s.setLink i l).sweep = s.sweep := rfl
@[simp] theorem State.setLink_arbiter (s : State) (i : LinkId) (l : LinkSlot) :
    (s.setLink i l).arbiter = s.arbiter := rfl
@[simp] theorem State.setLink_hold (s : State) (i : LinkId) (l : LinkSlot) : (s.setLink i l).hold = s.hold := rfl
@[simp] theorem State.setLink_bank (s : State) (i : LinkId) (l : LinkSlot) : (s.setLink i l).bank = s.bank := rfl
@[simp] theorem State.setLink_coverage (s : State) (i : LinkId) (l : LinkSlot) :
    (s.setLink i l).coverage = s.coverage := rfl
@[simp] theorem State.setLink_links (s : State) (i : LinkId) (l : LinkSlot) :
    (s.setLink i l).links = s.links.set i l := rfl
@[simp] theorem State.setLink_routes (s : State) (i : LinkId) (l : LinkSlot) :
    (s.setLink i l).routes = s.routes := rfl
@[simp] theorem State.setLink_migration (s : State) (i : LinkId) (l : LinkSlot) :
    (s.setLink i l).migration = s.migration := rfl
@[simp] theorem State.setLink_port (s : State) (i : LinkId) (l : LinkSlot) : (s.setLink i l).port = s.port := rfl
@[simp] theorem State.setLink_events (s : State) (i : LinkId) (l : LinkSlot) :
    (s.setLink i l).events = s.events := rfl
@[simp] theorem State.setLink_limits (s : State) (i : LinkId) (l : LinkSlot) :
    (s.setLink i l).limits = s.limits := rfl
@[simp] theorem State.setLink_pending (s : State) (i : LinkId) (l : LinkSlot) :
    (s.setLink i l).pending = s.pending := rfl

/-! ## One profile slot replaced. -/

@[simp] theorem State.setSlot_runState (s : State) (i : ProfileId) (p : ProfileSlot) :
    (s.setSlot i p).runState = s.runState := rfl
@[simp] theorem State.setSlot_clock (s : State) (i : ProfileId) (p : ProfileSlot) :
    (s.setSlot i p).clock = s.clock := rfl
@[simp] theorem State.setSlot_store (s : State) (i : ProfileId) (p : ProfileSlot) :
    (s.setSlot i p).store = s.store := rfl
@[simp] theorem State.setSlot_sweep (s : State) (i : ProfileId) (p : ProfileSlot) :
    (s.setSlot i p).sweep = s.sweep := rfl
@[simp] theorem State.setSlot_arbiter (s : State) (i : ProfileId) (p : ProfileSlot) :
    (s.setSlot i p).arbiter = s.arbiter := rfl
@[simp] theorem State.setSlot_hold (s : State) (i : ProfileId) (p : ProfileSlot) :
    (s.setSlot i p).hold = s.hold := rfl
@[simp] theorem State.setSlot_bank (s : State) (i : ProfileId) (p : ProfileSlot) :
    (s.setSlot i p).bank = { s.bank with slots := s.bank.slots.set i p } := rfl
@[simp] theorem State.setSlot_coverage (s : State) (i : ProfileId) (p : ProfileSlot) :
    (s.setSlot i p).coverage = s.coverage := rfl
@[simp] theorem State.setSlot_links (s : State) (i : ProfileId) (p : ProfileSlot) :
    (s.setSlot i p).links = s.links := rfl
@[simp] theorem State.setSlot_routes (s : State) (i : ProfileId) (p : ProfileSlot) :
    (s.setSlot i p).routes = s.routes := rfl
@[simp] theorem State.setSlot_migration (s : State) (i : ProfileId) (p : ProfileSlot) :
    (s.setSlot i p).migration = s.migration := rfl
@[simp] theorem State.setSlot_port (s : State) (i : ProfileId) (p : ProfileSlot) :
    (s.setSlot i p).port = s.port := rfl
@[simp] theorem State.setSlot_events (s : State) (i : ProfileId) (p : ProfileSlot) :
    (s.setSlot i p).events = s.events := rfl
@[simp] theorem State.setSlot_limits (s : State) (i : ProfileId) (p : ProfileSlot) :
    (s.setSlot i p).limits = s.limits := rfl
@[simp] theorem State.setSlot_pending (s : State) (i : ProfileId) (p : ProfileSlot) :
    (s.setSlot i p).pending = s.pending := rfl

/-! ## The grace deadline set. -/

@[simp] theorem State.setGrace_runState (s : State) (d : Option Nat) : (s.setGrace d).runState = s.runState := rfl
@[simp] theorem State.setGrace_clock (s : State) (d : Option Nat) : (s.setGrace d).clock = s.clock := rfl
@[simp] theorem State.setGrace_store (s : State) (d : Option Nat) : (s.setGrace d).store = s.store := rfl
@[simp] theorem State.setGrace_sweep (s : State) (d : Option Nat) : (s.setGrace d).sweep = s.sweep := rfl
@[simp] theorem State.setGrace_arbiter (s : State) (d : Option Nat) : (s.setGrace d).arbiter = s.arbiter := rfl
@[simp] theorem State.setGrace_hold (s : State) (d : Option Nat) : (s.setGrace d).hold = s.hold := rfl
@[simp] theorem State.setGrace_bank (s : State) (d : Option Nat) :
    (s.setGrace d).bank = { s.bank with graceDeadline := d } := rfl
@[simp] theorem State.setGrace_coverage (s : State) (d : Option Nat) : (s.setGrace d).coverage = s.coverage := rfl
@[simp] theorem State.setGrace_links (s : State) (d : Option Nat) : (s.setGrace d).links = s.links := rfl
@[simp] theorem State.setGrace_routes (s : State) (d : Option Nat) : (s.setGrace d).routes = s.routes := rfl
@[simp] theorem State.setGrace_migration (s : State) (d : Option Nat) : (s.setGrace d).migration = s.migration := rfl
@[simp] theorem State.setGrace_port (s : State) (d : Option Nat) : (s.setGrace d).port = s.port := rfl
@[simp] theorem State.setGrace_events (s : State) (d : Option Nat) : (s.setGrace d).events = s.events := rfl
@[simp] theorem State.setGrace_limits (s : State) (d : Option Nat) : (s.setGrace d).limits = s.limits := rfl
@[simp] theorem State.setGrace_pending (s : State) (d : Option Nat) : (s.setGrace d).pending = s.pending := rfl

/-! ## A profile slot given a role. -/

@[simp] theorem State.setRole_runState (s : State) (i : ProfileId) (role : Role) :
    (s.setRole i role).runState = s.runState := rfl
@[simp] theorem State.setRole_clock (s : State) (i : ProfileId) (role : Role) :
    (s.setRole i role).clock = s.clock := rfl
@[simp] theorem State.setRole_store (s : State) (i : ProfileId) (role : Role) :
    (s.setRole i role).store = s.store := rfl
@[simp] theorem State.setRole_sweep (s : State) (i : ProfileId) (role : Role) :
    (s.setRole i role).sweep = s.sweep := rfl
@[simp] theorem State.setRole_arbiter (s : State) (i : ProfileId) (role : Role) :
    (s.setRole i role).arbiter = s.arbiter := rfl
@[simp] theorem State.setRole_hold (s : State) (i : ProfileId) (role : Role) : (s.setRole i role).hold = s.hold := rfl
@[simp] theorem State.setRole_bank (s : State) (i : ProfileId) (role : Role) :
    (s.setRole i role).bank = { s.bank with slots := s.bank.slots.set i { s.bank.slots.get i with role := role } } := rfl
@[simp] theorem State.setRole_coverage (s : State) (i : ProfileId) (role : Role) :
    (s.setRole i role).coverage = s.coverage := rfl
@[simp] theorem State.setRole_links (s : State) (i : ProfileId) (role : Role) :
    (s.setRole i role).links = s.links := rfl
@[simp] theorem State.setRole_routes (s : State) (i : ProfileId) (role : Role) :
    (s.setRole i role).routes = s.routes := rfl
@[simp] theorem State.setRole_migration (s : State) (i : ProfileId) (role : Role) :
    (s.setRole i role).migration = s.migration := rfl
@[simp] theorem State.setRole_port (s : State) (i : ProfileId) (role : Role) : (s.setRole i role).port = s.port := rfl
@[simp] theorem State.setRole_events (s : State) (i : ProfileId) (role : Role) :
    (s.setRole i role).events = s.events := rfl
@[simp] theorem State.setRole_limits (s : State) (i : ProfileId) (role : Role) :
    (s.setRole i role).limits = s.limits := rfl
@[simp] theorem State.setRole_pending (s : State) (i : ProfileId) (role : Role) :
    (s.setRole i role).pending = s.pending := rfl

/-! ## A profile slot made FREE. -/

@[simp] theorem State.freeSlot_runState (s : State) (i : ProfileId) : (s.freeSlot i).runState = s.runState := rfl
@[simp] theorem State.freeSlot_clock (s : State) (i : ProfileId) : (s.freeSlot i).clock = s.clock := rfl
@[simp] theorem State.freeSlot_store (s : State) (i : ProfileId) : (s.freeSlot i).store = s.store := rfl
@[simp] theorem State.freeSlot_sweep (s : State) (i : ProfileId) : (s.freeSlot i).sweep = s.sweep := rfl
@[simp] theorem State.freeSlot_arbiter (s : State) (i : ProfileId) : (s.freeSlot i).arbiter = s.arbiter := rfl
@[simp] theorem State.freeSlot_hold (s : State) (i : ProfileId) : (s.freeSlot i).hold = s.hold := rfl
@[simp] theorem State.freeSlot_bank (s : State) (i : ProfileId) :
    (s.freeSlot i).bank = { s.bank with slots := s.bank.slots.set i (ProfileSlot.cleared .free) } := rfl
@[simp] theorem State.freeSlot_coverage (s : State) (i : ProfileId) : (s.freeSlot i).coverage = s.coverage := rfl
@[simp] theorem State.freeSlot_links (s : State) (i : ProfileId) : (s.freeSlot i).links = s.links := rfl
@[simp] theorem State.freeSlot_routes (s : State) (i : ProfileId) : (s.freeSlot i).routes = s.routes := rfl
@[simp] theorem State.freeSlot_migration (s : State) (i : ProfileId) : (s.freeSlot i).migration = s.migration := rfl
@[simp] theorem State.freeSlot_port (s : State) (i : ProfileId) : (s.freeSlot i).port = s.port := rfl
@[simp] theorem State.freeSlot_events (s : State) (i : ProfileId) : (s.freeSlot i).events = s.events := rfl
@[simp] theorem State.freeSlot_limits (s : State) (i : ProfileId) : (s.freeSlot i).limits = s.limits := rfl
@[simp] theorem State.freeSlot_pending (s : State) (i : ProfileId) : (s.freeSlot i).pending = s.pending := rfl

/-! ## One requester's entry replaced. -/

@[simp] theorem State.setEntry_runState (s : State) (r : RequesterId) (e : PortEntry) :
    (s.setEntry r e).runState = s.runState := rfl
@[simp] theorem State.setEntry_clock (s : State) (r : RequesterId) (e : PortEntry) :
    (s.setEntry r e).clock = s.clock := rfl
@[simp] theorem State.setEntry_store (s : State) (r : RequesterId) (e : PortEntry) :
    (s.setEntry r e).store = s.store := rfl
@[simp] theorem State.setEntry_sweep (s : State) (r : RequesterId) (e : PortEntry) :
    (s.setEntry r e).sweep = s.sweep := rfl
@[simp] theorem State.setEntry_arbiter (s : State) (r : RequesterId) (e : PortEntry) :
    (s.setEntry r e).arbiter = s.arbiter := rfl
@[simp] theorem State.setEntry_hold (s : State) (r : RequesterId) (e : PortEntry) :
    (s.setEntry r e).hold = s.hold := rfl
@[simp] theorem State.setEntry_bank (s : State) (r : RequesterId) (e : PortEntry) :
    (s.setEntry r e).bank = s.bank := rfl
@[simp] theorem State.setEntry_coverage (s : State) (r : RequesterId) (e : PortEntry) :
    (s.setEntry r e).coverage = s.coverage := rfl
@[simp] theorem State.setEntry_links (s : State) (r : RequesterId) (e : PortEntry) :
    (s.setEntry r e).links = s.links := rfl
@[simp] theorem State.setEntry_routes (s : State) (r : RequesterId) (e : PortEntry) :
    (s.setEntry r e).routes = s.routes := rfl
@[simp] theorem State.setEntry_migration (s : State) (r : RequesterId) (e : PortEntry) :
    (s.setEntry r e).migration = s.migration := rfl
@[simp] theorem State.setEntry_port (s : State) (r : RequesterId) (e : PortEntry) :
    (s.setEntry r e).port = { s.port with entries := s.port.entries.set r.val e r.isLt } := rfl
@[simp] theorem State.setEntry_events (s : State) (r : RequesterId) (e : PortEntry) :
    (s.setEntry r e).events = s.events := rfl
@[simp] theorem State.setEntry_limits (s : State) (r : RequesterId) (e : PortEntry) :
    (s.setEntry r e).limits = s.limits := rfl
@[simp] theorem State.setEntry_pending (s : State) (r : RequesterId) (e : PortEntry) :
    (s.setEntry r e).pending = s.pending := rfl

/-! ## The Request Engine's state set. -/

@[simp] theorem State.setEngine_runState (s : State) (e : EngineState) : (s.setEngine e).runState = s.runState := rfl
@[simp] theorem State.setEngine_clock (s : State) (e : EngineState) : (s.setEngine e).clock = s.clock := rfl
@[simp] theorem State.setEngine_store (s : State) (e : EngineState) : (s.setEngine e).store = s.store := rfl
@[simp] theorem State.setEngine_sweep (s : State) (e : EngineState) : (s.setEngine e).sweep = s.sweep := rfl
@[simp] theorem State.setEngine_arbiter (s : State) (e : EngineState) : (s.setEngine e).arbiter = s.arbiter := rfl
@[simp] theorem State.setEngine_hold (s : State) (e : EngineState) : (s.setEngine e).hold = s.hold := rfl
@[simp] theorem State.setEngine_bank (s : State) (e : EngineState) : (s.setEngine e).bank = s.bank := rfl
@[simp] theorem State.setEngine_coverage (s : State) (e : EngineState) : (s.setEngine e).coverage = s.coverage := rfl
@[simp] theorem State.setEngine_links (s : State) (e : EngineState) : (s.setEngine e).links = s.links := rfl
@[simp] theorem State.setEngine_routes (s : State) (e : EngineState) : (s.setEngine e).routes = s.routes := rfl
@[simp] theorem State.setEngine_migration (s : State) (e : EngineState) :
    (s.setEngine e).migration = s.migration := rfl
@[simp] theorem State.setEngine_port (s : State) (e : EngineState) :
    (s.setEngine e).port = { s.port with engine := e } := rfl
@[simp] theorem State.setEngine_events (s : State) (e : EngineState) : (s.setEngine e).events = s.events := rfl
@[simp] theorem State.setEngine_limits (s : State) (e : EngineState) : (s.setEngine e).limits = s.limits := rfl
@[simp] theorem State.setEngine_pending (s : State) (e : EngineState) : (s.setEngine e).pending = s.pending := rfl

/-! ## An answer sent. -/

@[simp] theorem State.send_runState (s : State) (a : Answer) : (s.send a).runState = s.runState := rfl
@[simp] theorem State.send_clock (s : State) (a : Answer) : (s.send a).clock = s.clock := rfl
@[simp] theorem State.send_store (s : State) (a : Answer) : (s.send a).store = s.store := rfl
@[simp] theorem State.send_sweep (s : State) (a : Answer) : (s.send a).sweep = s.sweep := rfl
@[simp] theorem State.send_arbiter (s : State) (a : Answer) : (s.send a).arbiter = s.arbiter := rfl
@[simp] theorem State.send_hold (s : State) (a : Answer) : (s.send a).hold = s.hold := rfl
@[simp] theorem State.send_bank (s : State) (a : Answer) : (s.send a).bank = s.bank := rfl
@[simp] theorem State.send_coverage (s : State) (a : Answer) : (s.send a).coverage = s.coverage := rfl
@[simp] theorem State.send_links (s : State) (a : Answer) : (s.send a).links = s.links := rfl
@[simp] theorem State.send_routes (s : State) (a : Answer) : (s.send a).routes = s.routes := rfl
@[simp] theorem State.send_migration (s : State) (a : Answer) : (s.send a).migration = s.migration := rfl
@[simp] theorem State.send_port (s : State) (a : Answer) :
    (s.send a).port = { s.port with sent := s.port.sent ++ [a] } := rfl
@[simp] theorem State.send_events (s : State) (a : Answer) : (s.send a).events = s.events := rfl
@[simp] theorem State.send_limits (s : State) (a : Answer) : (s.send a).limits = s.limits := rfl
@[simp] theorem State.send_pending (s : State) (a : Answer) : (s.send a).pending = s.pending := rfl

/-! ## An event raised. -/

@[simp] theorem State.raise_runState (s : State) (e : Event) (d : Details) :
    (s.raise e d).runState = s.runState := rfl
@[simp] theorem State.raise_clock (s : State) (e : Event) (d : Details) : (s.raise e d).clock = s.clock := rfl
@[simp] theorem State.raise_store (s : State) (e : Event) (d : Details) : (s.raise e d).store = s.store := rfl
@[simp] theorem State.raise_sweep (s : State) (e : Event) (d : Details) : (s.raise e d).sweep = s.sweep := rfl
@[simp] theorem State.raise_arbiter (s : State) (e : Event) (d : Details) : (s.raise e d).arbiter = s.arbiter := rfl
@[simp] theorem State.raise_hold (s : State) (e : Event) (d : Details) : (s.raise e d).hold = s.hold := rfl
@[simp] theorem State.raise_bank (s : State) (e : Event) (d : Details) : (s.raise e d).bank = s.bank := rfl
@[simp] theorem State.raise_coverage (s : State) (e : Event) (d : Details) :
    (s.raise e d).coverage = s.coverage := rfl
@[simp] theorem State.raise_links (s : State) (e : Event) (d : Details) : (s.raise e d).links = s.links := rfl
@[simp] theorem State.raise_routes (s : State) (e : Event) (d : Details) : (s.raise e d).routes = s.routes := rfl
@[simp] theorem State.raise_migration (s : State) (e : Event) (d : Details) :
    (s.raise e d).migration = s.migration := rfl
@[simp] theorem State.raise_port (s : State) (e : Event) (d : Details) : (s.raise e d).port = s.port := rfl
@[simp] theorem State.raise_events (s : State) (e : Event) (d : Details) :
    (s.raise e d).events = { s.events with pendingSet := s.events.pendingSet ||| e.bit, details := d } := rfl
@[simp] theorem State.raise_limits (s : State) (e : Event) (d : Details) : (s.raise e d).limits = s.limits := rfl
@[simp] theorem State.raise_pending (s : State) (e : Event) (d : Details) : (s.raise e d).pending = s.pending := rfl

/-! ## An order placed. -/

@[simp] theorem State.order_runState (s : State) (k : WalkKind) : (s.order k).runState = s.runState := rfl
@[simp] theorem State.order_clock (s : State) (k : WalkKind) : (s.order k).clock = s.clock := rfl
@[simp] theorem State.order_store (s : State) (k : WalkKind) : (s.order k).store = s.store := rfl
@[simp] theorem State.order_sweep (s : State) (k : WalkKind) : (s.order k).sweep = s.sweep := rfl
@[simp] theorem State.order_arbiter (s : State) (k : WalkKind) : (s.order k).arbiter = s.arbiter := rfl
@[simp] theorem State.order_hold (s : State) (k : WalkKind) : (s.order k).hold = s.hold := rfl
@[simp] theorem State.order_bank (s : State) (k : WalkKind) : (s.order k).bank = s.bank := rfl
@[simp] theorem State.order_coverage (s : State) (k : WalkKind) : (s.order k).coverage = s.coverage := rfl
@[simp] theorem State.order_links (s : State) (k : WalkKind) : (s.order k).links = s.links := rfl
@[simp] theorem State.order_routes (s : State) (k : WalkKind) : (s.order k).routes = s.routes := rfl
@[simp] theorem State.order_migration (s : State) (k : WalkKind) :
    (s.order k).migration = s.migration.order s.isHeld k := rfl
@[simp] theorem State.order_port (s : State) (k : WalkKind) : (s.order k).port = s.port := rfl
@[simp] theorem State.order_events (s : State) (k : WalkKind) : (s.order k).events = s.events := rfl
@[simp] theorem State.order_limits (s : State) (k : WalkKind) : (s.order k).limits = s.limits := rfl
@[simp] theorem State.order_pending (s : State) (k : WalkKind) : (s.order k).pending = s.pending := rfl

/-! ## The next walk chosen. -/

@[simp] theorem State.nextWalk_runState (s : State) : s.nextWalk.runState = s.runState := rfl
@[simp] theorem State.nextWalk_clock (s : State) : s.nextWalk.clock = s.clock := rfl
@[simp] theorem State.nextWalk_store (s : State) : s.nextWalk.store = s.store := rfl
@[simp] theorem State.nextWalk_sweep (s : State) : s.nextWalk.sweep = s.sweep := rfl
@[simp] theorem State.nextWalk_arbiter (s : State) : s.nextWalk.arbiter = s.arbiter := rfl
@[simp] theorem State.nextWalk_hold (s : State) : s.nextWalk.hold = s.hold := rfl
@[simp] theorem State.nextWalk_bank (s : State) : s.nextWalk.bank = s.bank := rfl
@[simp] theorem State.nextWalk_coverage (s : State) : s.nextWalk.coverage = s.coverage := rfl
@[simp] theorem State.nextWalk_links (s : State) : s.nextWalk.links = s.links := rfl
@[simp] theorem State.nextWalk_routes (s : State) : s.nextWalk.routes = s.routes := rfl
@[simp] theorem State.nextWalk_migration (s : State) : s.nextWalk.migration = s.migration.next s.isHeld := rfl
@[simp] theorem State.nextWalk_port (s : State) : s.nextWalk.port = s.port := rfl
@[simp] theorem State.nextWalk_events (s : State) : s.nextWalk.events = s.events := rfl
@[simp] theorem State.nextWalk_limits (s : State) : s.nextWalk.limits = s.limits := rfl
@[simp] theorem State.nextWalk_pending (s : State) : s.nextWalk.pending = s.pending := rfl

/-! ## The DARK walk cancelled. -/

@[simp] theorem State.cancelDark_runState (s : State) : s.cancelDark.runState = s.runState := rfl
@[simp] theorem State.cancelDark_clock (s : State) : s.cancelDark.clock = s.clock := rfl
@[simp] theorem State.cancelDark_store (s : State) : s.cancelDark.store = s.store := rfl
@[simp] theorem State.cancelDark_sweep (s : State) : s.cancelDark.sweep = s.sweep := rfl
@[simp] theorem State.cancelDark_arbiter (s : State) : s.cancelDark.arbiter = s.arbiter := rfl
@[simp] theorem State.cancelDark_hold (s : State) : s.cancelDark.hold = s.hold := rfl
@[simp] theorem State.cancelDark_bank (s : State) : s.cancelDark.bank = s.bank := rfl
@[simp] theorem State.cancelDark_coverage (s : State) : s.cancelDark.coverage = s.coverage := rfl
@[simp] theorem State.cancelDark_links (s : State) : s.cancelDark.links = s.links := rfl
@[simp] theorem State.cancelDark_routes (s : State) : s.cancelDark.routes = s.routes := rfl
@[simp] theorem State.cancelDark_migration (s : State) :
    s.cancelDark.migration = s.migration.withdraw s.isHeld .dark := rfl
@[simp] theorem State.cancelDark_port (s : State) : s.cancelDark.port = s.port := rfl
@[simp] theorem State.cancelDark_events (s : State) : s.cancelDark.events = s.events := rfl
@[simp] theorem State.cancelDark_limits (s : State) : s.cancelDark.limits = s.limits := rfl
@[simp] theorem State.cancelDark_pending (s : State) : s.cancelDark.pending = s.pending := rfl

/-! ## A context written. -/

@[simp] theorem State.writeContext_runState (s : State) (h : Handle) (c : Context) :
    (s.writeContext h c).runState = s.runState := rfl
@[simp] theorem State.writeContext_clock (s : State) (h : Handle) (c : Context) :
    (s.writeContext h c).clock = s.clock := rfl
@[simp] theorem State.writeContext_store (s : State) (h : Handle) (c : Context) :
    (s.writeContext h c).store = s.store.write h c := rfl
@[simp] theorem State.writeContext_sweep (s : State) (h : Handle) (c : Context) :
    (s.writeContext h c).sweep = s.sweep := rfl
@[simp] theorem State.writeContext_arbiter (s : State) (h : Handle) (c : Context) :
    (s.writeContext h c).arbiter = s.arbiter := rfl
@[simp] theorem State.writeContext_hold (s : State) (h : Handle) (c : Context) :
    (s.writeContext h c).hold = s.hold := rfl
@[simp] theorem State.writeContext_bank (s : State) (h : Handle) (c : Context) :
    (s.writeContext h c).bank = s.bank := rfl
@[simp] theorem State.writeContext_coverage (s : State) (h : Handle) (c : Context) :
    (s.writeContext h c).coverage = s.coverage := rfl
@[simp] theorem State.writeContext_links (s : State) (h : Handle) (c : Context) :
    (s.writeContext h c).links = s.links := rfl
@[simp] theorem State.writeContext_routes (s : State) (h : Handle) (c : Context) :
    (s.writeContext h c).routes = s.routes := rfl
@[simp] theorem State.writeContext_migration (s : State) (h : Handle) (c : Context) :
    (s.writeContext h c).migration = { s.migration with
      parkedTotal := moveCount ((s.ctx h).state = .parked) (c.state = .parked) s.migration.parkedTotal } := rfl
@[simp] theorem State.writeContext_port (s : State) (h : Handle) (c : Context) :
    (s.writeContext h c).port = s.port := rfl
@[simp] theorem State.writeContext_events (s : State) (h : Handle) (c : Context) :
    (s.writeContext h c).events = s.events := rfl
@[simp] theorem State.writeContext_limits (s : State) (h : Handle) (c : Context) :
    (s.writeContext h c).limits = s.limits := rfl
@[simp] theorem State.writeContext_pending (s : State) (h : Handle) (c : Context) :
    (s.writeContext h c).pending = s.pending := rfl

/-! ## The condition-cleared flags. -/

@[simp] theorem State.followConditions_runState (s : State) : s.followConditions.runState = s.runState := rfl
@[simp] theorem State.followConditions_clock (s : State) : s.followConditions.clock = s.clock := rfl
@[simp] theorem State.followConditions_store (s : State) : s.followConditions.store = s.store := rfl
@[simp] theorem State.followConditions_sweep (s : State) : s.followConditions.sweep = s.sweep := rfl
@[simp] theorem State.followConditions_arbiter (s : State) : s.followConditions.arbiter = s.arbiter := rfl
@[simp] theorem State.followConditions_hold (s : State) : s.followConditions.hold = s.hold := rfl
@[simp] theorem State.followConditions_bank (s : State) : s.followConditions.bank = s.bank := rfl
@[simp] theorem State.followConditions_coverage (s : State) : s.followConditions.coverage = s.coverage := rfl
@[simp] theorem State.followConditions_links (s : State) : s.followConditions.links = s.links := rfl
@[simp] theorem State.followConditions_routes (s : State) : s.followConditions.routes = s.routes := rfl
@[simp] theorem State.followConditions_migration (s : State) : s.followConditions.migration = s.migration := rfl
@[simp] theorem State.followConditions_port (s : State) : s.followConditions.port = s.port := rfl
@[simp] theorem State.followConditions_events (s : State) :
    s.followConditions.events = { s.events with pendingSet := s.events.pendingSet &&& ~~~s.clearedSet } := rfl
@[simp] theorem State.followConditions_limits (s : State) : s.followConditions.limits = s.limits := rfl
@[simp] theorem State.followConditions_pending (s : State) : s.followConditions.pending = s.pending := rfl

/-! ## The attention line. -/

@[simp] theorem State.followLine_runState (s : State) : s.followLine.runState = s.runState := rfl
@[simp] theorem State.followLine_clock (s : State) : s.followLine.clock = s.clock := rfl
@[simp] theorem State.followLine_store (s : State) : s.followLine.store = s.store := rfl
@[simp] theorem State.followLine_sweep (s : State) : s.followLine.sweep = s.sweep := rfl
@[simp] theorem State.followLine_arbiter (s : State) : s.followLine.arbiter = s.arbiter := rfl
@[simp] theorem State.followLine_hold (s : State) : s.followLine.hold = s.hold := rfl
@[simp] theorem State.followLine_bank (s : State) : s.followLine.bank = s.bank := rfl
@[simp] theorem State.followLine_coverage (s : State) : s.followLine.coverage = s.coverage := rfl
@[simp] theorem State.followLine_links (s : State) : s.followLine.links = s.links := rfl
@[simp] theorem State.followLine_routes (s : State) : s.followLine.routes = s.routes := rfl
@[simp] theorem State.followLine_migration (s : State) : s.followLine.migration = s.migration := rfl
@[simp] theorem State.followLine_port (s : State) : s.followLine.port = s.port := rfl
@[simp] theorem State.followLine_events (s : State) :
    s.followLine.events = { s.events with attention := s.events.lineCondition } := rfl
@[simp] theorem State.followLine_limits (s : State) : s.followLine.limits = s.limits := rfl
@[simp] theorem State.followLine_pending (s : State) : s.followLine.pending = s.pending := rfl

end Sys2Proof.Machine
end

