-- ==== Sys2Proof/Laws/Contexts.lean ====
section
/-! SUPPORT. Laws of the context table: what reads after a write, the canonical form, the search of the lowest handle,
and what writing a context leaves. -/

namespace Sys2Proof.Machine

/-! ## The table -/

theorem lookupContext_insert (h k : Handle) (c : Context) (table : List (Handle × Context))
    (absent : ∀ e ∈ table, e.1 ≠ h) :
    lookupContext (insertContext h c table) k = if k = h then c else lookupContext table k := by
  induction table with
  | nil => simp [insertContext, lookupContext, eq_comm]
  | cons e rest ih =>
    obtain ⟨a, x⟩ := e
    have ha : a ≠ h := absent (a, x) (by simp)
    have ih := ih (fun e he => absent e (by simp [he]))
    unfold insertContext
    split
    · simp [lookupContext, eq_comm]
    · simp only [lookupContext, ih]
      by_cases hk : k = h
      · subst hk; simp [ha]
      · simp [hk]

theorem lookupContext_filter (h k : Handle) (table : List (Handle × Context)) :
    lookupContext (table.filter (fun e => e.1 ≠ h)) k = if k = h then Context.free else lookupContext table k := by
  induction table with
  | nil => simp [lookupContext]
  | cons e rest ih =>
    obtain ⟨a, x⟩ := e
    by_cases ha : a = h
    · subst ha
      simp only [ne_eq, not_true, decide_false, Bool.false_eq_true, not_false_eq_true, List.filter_cons_of_neg, ih]
      by_cases hk : k = a <;> simp [hk, lookupContext, eq_comm]
    · rw [List.filter_cons_of_pos (by simpa using ha)]
      simp only [lookupContext, ih]
      by_cases hk : k = h
      · subst hk; simp [ha]
      · simp [hk]

/-- What the table reads after a record is replaced. -/
theorem lookupContext_replace (h k : Handle) (c : Context) (table : List (Handle × Context)) :
    lookupContext (replaceContext h c table) k = if k = h then c else lookupContext table k := by
  unfold replaceContext
  by_cases hc : c = Context.free
  · simp only [hc, if_true, lookupContext_filter]
  · simp only [hc, if_false]
    rw [lookupContext_insert _ _ _ _ (fun e he => by simpa using (List.mem_filter.1 he).2), lookupContext_filter]
    by_cases hk : k = h <;> simp [hk]

theorem mem_insertContext (h : Handle) (c : Context) (table : List (Handle × Context)) (e : Handle × Context) :
    e ∈ insertContext h c table ↔ e = (h, c) ∨ e ∈ table := by
  induction table with
  | nil => simp [insertContext]
  | cons x rest ih =>
    unfold insertContext
    split
    · simp
    · simp only [List.mem_cons, ih]
      tauto

theorem insertContext_sorted (h : Handle) (c : Context) (table : List (Handle × Context))
    (absent : ∀ e ∈ table, e.1 ≠ h) (sorted : table.Pairwise (fun a b => a.1 < b.1)) :
    (insertContext h c table).Pairwise (fun a b => a.1 < b.1) := by
  induction table with
  | nil => simp [insertContext]
  | cons x rest ih =>
    obtain ⟨k, y⟩ := x
    have hk : k ≠ h := absent (k, y) (by simp)
    rw [List.pairwise_cons] at sorted
    unfold insertContext
    split
    · rename_i hlt
      refine List.pairwise_cons.2 ⟨?_, List.pairwise_cons.2 sorted⟩
      intro e he
      rcases List.mem_cons.1 he with rfl | he
      · exact hlt
      · exact lt_trans hlt (sorted.1 e he)
    · rename_i hlt
      refine List.pairwise_cons.2 ⟨?_, ih (fun e he => absent e (by simp [he])) sorted.2⟩
      intro e he
      rcases (mem_insertContext h c rest e).1 he with rfl | he
      · exact lt_of_le_of_ne (not_lt.1 hlt) hk
      · exact sorted.1 e he

/-- Replacing a record keeps the table's canonical form. -/
theorem replaceContext_wf (h : Handle) (c : Context) (table : List (Handle × Context))
    (wf : contextsWf table = true) : contextsWf (replaceContext h c table) = true := by
  simp only [contextsWf, Bool.and_eq_true, decide_eq_true_eq, List.all_eq_true] at wf ⊢
  have sorted := wf.1.filter (fun e => decide (e.1 ≠ h))
  have listed : ∀ e ∈ table.filter (fun e => decide (e.1 ≠ h)), e.2 ≠ Context.free :=
    fun e he => wf.2 e (List.mem_of_mem_filter he)
  unfold replaceContext
  by_cases hc : c = Context.free
  · simp only [hc, if_true]
    exact ⟨sorted, listed⟩
  · simp only [hc, if_false]
    refine ⟨insertContext_sorted h c _ (fun e he => by simpa using (List.mem_filter.1 he).2) sorted, ?_⟩
    intro e he
    rcases (mem_insertContext h c _ e).1 he with rfl | he
    · exact hc
    · exact listed e he

/-- Writing a context keeps the table's canonical form. -/
theorem Store.write_wf (t : Store) (h : Handle) (c : Context) (wf : contextsWf t.contexts = true) :
    contextsWf (t.write h c).contexts = true := replaceContext_wf h c t.contexts wf

/-- The table after reset has the canonical form. -/
theorem reset_contextsWf : contextsWf State.reset.store.contexts = true := by decide

/-! ## The lowest handle -/

/-- A search finds nothing where no handle passes. -/
theorem searchHandle_none (p : Handle → Bool) (fuel n : Nat) (bound : n + fuel = 2048) (h : ∀ k, p k = false) :
    searchHandle p fuel n = none := by
  induction fuel generalizing n with
  | zero => rfl
  | succ f ih =>
    unfold searchHandle
    split
    · simpa [h] using ih (n + 1) (by omega)
    · rfl

/-- A search finds the lowest handle that passes. -/
theorem searchHandle_some (p : Handle → Bool) (fuel n : Nat) (bound : n + fuel = 2048) (h : Handle)
    (reach : n ≤ h.val) (hit : p h = true) (below : ∀ k, k < h → p k = false) : searchHandle p fuel n = some h := by
  induction fuel generalizing n with
  | zero => omega
  | succ f ih =>
    have hn : n < 2048 := by omega
    unfold searchHandle
    rw [dif_pos hn]
    by_cases e : n = h.val
    · have : (⟨n, hn⟩ : Handle) = h := Fin.ext e
      rw [this, if_pos hit]
    · have : p ⟨n, hn⟩ = false := below ⟨n, hn⟩ (by change n < h.val; omega)
      rw [this]
      exact ih (n + 1) (by omega) (by omega)

/-! ## Writing a context -/

@[simp] theorem State.ctx_raise (s : State) (e : Event) (d : Details) (k : Handle) : (s.raise e d).ctx k = s.ctx k :=
  rfl

@[simp] theorem State.commit_store (s : State) (h : Handle) (c : Context) :
    (s.commit h c).store = s.store.write h c := by
  unfold State.commit
  dsimp only
  split <;> split <;> rfl

/-- What the contexts read after one is written. -/
theorem State.ctx_commit (s : State) (h k : Handle) (c : Context) :
    (s.commit h c).ctx k = if k = h then c else s.ctx k := by
  simp only [State.ctx, State.commit_store, Store.write, lookupContext_replace]

/-- Everything that writing a context leaves as it is: all but the store, the parked total and the pending set. -/
theorem State.commit_frame (s : State) (h : Handle) (c : Context) :
    s.commit h c = { s with
      store := s.store.write h c
      migration := { s.migration with
        parkedTotal := moveCount ((s.ctx h).state = .parked) (c.state = .parked) s.migration.parkedTotal }
      events := { s.events with pendingSet := (s.commit h c).events.pendingSet } } := by
  unfold State.commit State.writeContext State.raisePlain State.raise
  dsimp only
  split <;> split <;> rfl

@[simp] theorem State.commit_port (s : State) (h : Handle) (c : Context) : (s.commit h c).port = s.port := by
  rw [State.commit_frame]

/-- A count moves by what joins and what leaves. -/
theorem moveCount_eq (was now : Bool) (n : Nat) :
    moveCount was now n = n - (if was = true ∧ now = false then 1 else 0) + (if was = false ∧ now = true then 1 else 0) := by
  cases was <;> cases now <;> simp [moveCount]

end Sys2Proof.Machine
end

