-- ==== Sys2Proof/Laws/Profiles.lean ====
section
/-! SUPPORT. Laws of the profile slots by role. -/

namespace Sys2Proof.Machine

/-- No slot is found in a role that no slot holds. -/
theorem State.slotIn_none (s : State) (role : Role) :
    s.slotIn role = none ↔ ∀ i, (s.bank.slots.get i).role ≠ role := by
  simp only [State.slotIn, slotIds, List.find?_eq_none, List.mem_cons, List.not_mem_nil, or_false, forall_eq_or_imp,
    forall_eq, decide_eq_true_eq, forall_slot, ne_eq]

/-- The slot found in a role is the lowest that holds it. -/
theorem State.slotIn_some (s : State) (role : Role) (i : ProfileId) :
    s.slotIn role = some i ↔
      (s.bank.slots.get i).role = role ∧ ∀ j, j < i → (s.bank.slots.get j).role ≠ role := by
  unfold State.slotIn slotIds
  by_cases h0 : (s.bank.slots.get 0).role = role <;> by_cases h1 : (s.bank.slots.get 1).role = role <;>
    by_cases h2 : (s.bank.slots.get 2).role = role <;> by_cases h3 : (s.bank.slots.get 3).role = role <;>
    simp only [List.find?_cons, h0, h1, h2, h3, decide_true, decide_false, forall_slot] <;> fin_cases i <;>
    simp [h0, h1, h2, h3]

/-- The only slot in a role is the one found. -/
theorem State.slotIn_only {s : State} (inv : BankInv s.bank) {role : Role} {i : ProfileId} (named : role ≠ .free)
    (holds : (s.bank.slots.get i).role = role) : s.slotIn role = some i := by
  rw [State.slotIn_some]
  refine ⟨holds, fun j hj hh => ?_⟩
  have := inv.once j i (by rw [hh]; exact named) (by rw [hh, holds])
  exact absurd (this ▸ hj) (lt_irrefl _)

/-- The LIVE slot is the one whose role is LIVE. -/
theorem State.live_eq {s : State} (inv : BankInv s.bank) :
    ∃ i, (s.bank.slots.get i).role = .live ∧ s.liveSlot = i ∧ s.live = s.bank.slots.get i := by
  obtain ⟨i, hi⟩ := inv.live
  have := State.slotIn_only inv (by simp) hi
  exact ⟨i, hi, by simp [State.liveSlot, this], by simp [State.live, State.liveSlot, this]⟩

end Sys2Proof.Machine
end

