-- ==== Sys2Proof/Laws/Rating.lean ====
section
/-! SUPPORT. Laws of a draw on the allowance list, and of the events that a draw's removed tags raise. -/

namespace Sys2Proof.Machine

/-- A draw leaves no more to be drawn than it was asked for. -/
theorem draw_rest_le (kind : AllowanceKind) (list : List Allowance) (amount : Nat) :
    (draw kind amount list).rest ≤ amount := by
  induction list generalizing amount with
  | nil => simp [draw]
  | cons a rest ih =>
    unfold draw
    split
    · have := ih (amount - min a.balance amount)
      dsimp only
      split <;> dsimp only <;> omega
    · exact ih amount

/-- A draw of 0 leaves the list as it is (R58). -/
@[simp] theorem draw_zero (kind : AllowanceKind) (list : List Allowance) : draw kind 0 list = ⟨list, 0, []⟩ := by
  induction list with
  | nil => simp [draw]
  | cons a rest ih => simp [draw, ih]

/-- A draw leaves no entry that the list did not have, but for its balance. -/
theorem draw_tags (kind : AllowanceKind) (list : List Allowance) (amount : Nat) :
    ((draw kind amount list).allowances.map (·.tag)).Sublist (list.map (·.tag)) := by
  induction list generalizing amount with
  | nil => simp [draw]
  | cons a rest ih =>
    unfold draw
    split
    · dsimp only
      split
      · exact (ih _).trans (List.sublist_cons_self _ _)
      · exact (ih _).cons_cons _
    · exact (ih amount).cons_cons _

/-- The money of stage 4 is drawn, added to the overrun or written off. -/
theorem moneyStage_balance (list : List Allowance) (overrun cap money : Nat) (within : overrun ≤ cap) :
    let m := moneyStage list overrun cap money
    m.drawn + m.added + m.writtenOff = money ∧ m.overrun = overrun + m.added ∧ m.overrun ≤ cap := by
  have := draw_rest_le .units list money
  dsimp only [moneyStage]
  omega

/-- The tags removed raise ALLOWANCE_SPENT, whose detail names the last of them (R93). -/
theorem foldl_raiseSpent (h : Handle) (tags : List Byte) (s : State) :
    tags.foldl (fun t tag => t.raiseSpent h tag) s = { s with events := { s.events with
      pendingSet := s.events.pendingSet ||| (if tags = [] then 0#17 else 2#17)
      details := { s.events.details with
        spentHandle := if tags = [] then s.events.details.spentHandle else h
        spentTag := tags.getLast?.getD s.events.details.spentTag } } } := by
  induction tags generalizing s with
  | nil => simp
  | cons a rest ih =>
    simp only [List.foldl_cons, ih]
    by_cases last : rest = []
    · subst last
      simp [State.raiseSpent, State.raise, Event.bit, Event.num]
    · simp [State.raiseSpent, State.raise, Event.bit, Event.num, last, List.getLast?_cons, BitVec.or_assoc]

end Sys2Proof.Machine
end

