-- ==== Sys2Proof/Laws/Service.lean ====
section
/-! SUPPORT. Laws of the service of a request, of the end of an event, of the arbiter and of the hold: what each can
change, said once. -/

namespace Sys2Proof.Machine

/-! ## Requester entries -/

/-- What the requester table reads after an entry is replaced. -/
theorem State.entry_setEntry (s : State) (r r' : RequesterId) (e : PortEntry) :
    (s.setEntry r e).entry r' = if r' = r then e else s.entry r' := by
  change (s.port.entries.set r.val e r.isLt)[r'.val] = _
  rw [Vector.getElem_set]
  by_cases h : r' = r
  · subst h; simp
  · have : ¬r.val = r'.val := fun hh => h (Fin.ext hh.symm)
    simp only [this, h, if_false]
    rfl

/-! ## The arbiter and the engine -/

/-- Making or keeping a grant changes the arbiter alone. -/
theorem State.regrant_frame (s : State) : s.regrant = { s with arbiter := s.regrant.arbiter } := by
  unfold State.regrant State.award
  cases h : s.arbiter <;> dsimp only <;> (repeat' split) <;> rfl

/-- The engine's entry into SERVING: it moves where it awaits a grant that is its own, and nothing else changes. -/
theorem State.enterService_eq (s : State) : s.enterService = s.setEngine
    (match s.port.engine with
      | .awaitingGrant r => if s.arbiter = .granted .request then .serving r else .awaitingGrant r
      | .serving r => .serving r
      | .idle => .idle) := by
  unfold State.enterService State.setEngine
  split <;> rename_i h <;> simp only [h]
  · split <;> simp only [← h]
  · simp only [← h]
  · simp only [← h]

/-- The arbiter's turn changes the arbiter and the engine alone. -/
theorem State.arbitrate_frame (s : State) : s.arbitrate = { s with
    arbiter := s.arbitrate.arbiter, port := { s.port with engine := s.arbitrate.port.engine } } := by
  unfold State.arbitrate
  rw [State.enterService_eq, State.regrant_frame]
  rfl

/-- A grant within a service changes the arbiter and the engine alone. -/
theorem State.grantAtOnce_frame (s : State) : s.grantAtOnce = { s with
    arbiter := s.grantAtOnce.arbiter, port := { s.port with engine := s.grantAtOnce.port.engine } } := by
  unfold State.grantAtOnce
  split
  · rfl
  · exact s.arbitrate_frame
  · exact s.arbitrate_frame

/-- Taking a head changes the engine alone. -/
theorem State.takeHead_frame (s : State) :
    s.takeHead = { s with port := { s.port with engine := s.takeHead.port.engine } } := by
  unfold State.takeHead
  (repeat' split) <;> rfl

/-- The end of every event changes the engine, the arbiter, the pending set and the line alone. -/
theorem State.conclude_frame (s : State) : s.conclude = { s with
    port := { s.port with engine := s.conclude.port.engine }, arbiter := s.conclude.arbiter
    events := { s.events with
      pendingSet := s.conclude.events.pendingSet, attention := s.conclude.events.attention } } := by
  have h1 := s.takeHead_frame
  have h2 := s.takeHead.arbitrate_frame
  unfold State.conclude State.followLine State.followConditions
  rw [h2]
  dsimp only
  rw [h1]

/-! ## The hold -/

/-- The end of a hold changes the hold, and the Migration Engine where no walk is in progress. -/
theorem State.endHold_eq (s : State) : s.endHold = { s with
    hold := ⟨.notHeld, none, false⟩
    migration := match s.migration.walk with | none => s.migration.next false | some _ => s.migration } := by
  unfold State.endHold State.nextWalk State.isHeld
  dsimp only
  split <;> simp_all

/-! ## The condition-cleared events -/

/-- The cleared set holds exactly the events whose clearing condition holds. -/
theorem State.clearedSet_bit (s : State) (e : Event) : s.clearedSet.getLsbD e.num = s.clears e := by
  unfold State.clearedSet
  simp only [List.foldl]
  cases h1 : s.clears .attachWaiting <;> cases h2 : s.clears .settleWaiting <;> cases h3 : s.clears .profileMissing <;>
    cases h4 : s.clears .backhaulLost <;> cases e <;>
    first
      | (simp [Event.bit, Event.num, h1, h2, h3, h4]; done)
      | simp [Event.bit, Event.num, State.clears]

/-- The clearing conditions read the store, the profiles and the links alone. -/
theorem State.clears_congr {s t : State} (store : s.store = t.store) (bank : s.bank = t.bank)
    (links : s.links = t.links) : s.clears = t.clears := by
  funext e
  unfold State.clears State.firstUnhanded State.live State.liveSlot State.slotIn State.anyCarry State.link State.ctx
  rw [store, bank, links]

/-! ## The service of a request -/

/-- A request in service is the head of the queue that the engine is SERVING (R179). -/
theorem State.inService_serving {s : State} {r : RequesterId} {m : Message} (h : s.inService = some (r, m)) :
    s.port.engine = .serving r ∧ (s.entry r).queue.head? = some m ∧ s.hold.state ≠ .requested := by
  unfold State.inService at h
  split at h
  · exact absurd h (by simp)
  · exact absurd h (by simp)
  · split at h
    · exact absurd h (by simp)
    · rename_i engine free
      obtain ⟨m', head, pair⟩ := Option.map_eq_some_iff.1 h
      obtain ⟨rfl, rfl⟩ := Prod.mk.inj pair
      exact ⟨engine, head, free⟩

/-- The service of a request in service whose checks pass and whose body reads as `q`: its rule, then the end of the
service. -/
theorem State.serve_eq {s : State} {r : RequesterId} {m : Message} {k : Kind} {q : Request}
    {rule : Option Request → List Byte → State → State × Reply} (served : s.inService = some (r, m))
    (passes : s.portRefusal r m = none) (kind : m.kind.toNat = k.code) (read : k.read m.body = some q) :
    s.serve k rule = (rule (some q) m.body s).1.finish r m (rule (some q) m.body s).2 := by
  simp only [State.serve, served, passes, kind, read, Kind.ofCode_code, if_true]

/-- Everything that a service can be: nothing where another request, or none, is in service; a refusal by the checks;
or the rule's result, ended. -/
theorem State.serve_cases (s : State) (k : Kind) (rule : Option Request → List Byte → State → State × Reply) :
    (s.serve k rule = s ∧ ∀ r m, s.inService = some (r, m) → Kind.ofCode m.kind.toNat ≠ some k)
    ∨ ∃ r m, s.inService = some (r, m) ∧ Kind.ofCode m.kind.toNat = some k
      ∧ ((∃ status, s.portRefusal r m = some status ∧ s.serve k rule = s.finish r m (Reply.refusal status))
        ∨ (s.portRefusal r m = none ∧ s.serve k rule
            = (rule (k.read m.body) m.body s).1.finish r m (rule (k.read m.body) m.body s).2)) := by
  unfold State.serve
  cases served : s.inService with
  | none => exact .inl ⟨rfl, by simp⟩
  | some rm =>
    obtain ⟨r, m⟩ := rm
    by_cases kind : Kind.ofCode m.kind.toNat = some k
    · refine .inr ⟨r, m, rfl, kind, ?_⟩
      simp only [kind, if_true]
      cases passes : s.portRefusal r m with
      | some status => exact .inl ⟨status, rfl, rfl⟩
      | none => exact .inr ⟨rfl, rfl⟩
    · refine .inl ⟨by simp only [kind, if_false], ?_⟩
      rintro r' m' h
      obtain ⟨rfl, rfl⟩ := Prod.mk.inj (Option.some.inj h)
      exact kind

/-! ## What the operations of chapters 7 and 8 change -/

/-- An abort of a SHIFT changes the Migration Engine and raises at most its event. -/
theorem State.dropShift_frame (s : State) :
    s.dropShift = { s with migration := s.dropShift.migration, events := s.dropShift.events } := by
  unfold State.dropShift
  cases s.migration.shift <;> rfl

/-- A slot that joins the lost set changes the Migration Engine and raises at most SHIFT_ABORTED. -/
theorem State.joinLost_frame (s : State) (i : LinkId) :
    s.joinLost i = { s with migration := (s.joinLost i).migration, events := (s.joinLost i).events } := by
  unfold State.joinLost
  dsimp only
  split
  · rw [State.dropShift_frame]; rfl
  · rfl

/-- A demotion changes the links, the Migration Engine and the events alone. -/
theorem State.demote_frame (s : State) (i : LinkId) :
    s.demote i = { s with
      links := s.links.set i (s.link i).toTrack, migration := (s.demote i).migration
      events := (s.demote i).events } := by
  unfold State.demote
  rw [State.joinLost_frame]
  rfl

/-- A recomputation changes the coverage mode, the Migration Engine and the events alone. -/
theorem State.recompute_frame (s : State) :
    s.recompute.1 = { s with
      coverage := { s.coverage with mode := s.recompute.1.coverage.mode }, migration := s.recompute.1.migration
      events := s.recompute.1.events } := by
  unfold State.recompute
  split <;> rfl

/-- The LIVE profile's action on a link slot changes the links, the Migration Engine and the events alone. -/
theorem State.zoneChange_frame (s : State) (i : LinkId) :
    s.zoneChange i = { s with
      links := (s.zoneChange i).links, migration := (s.zoneChange i).migration
      events := (s.zoneChange i).events } := by
  have shape : ∃ links migration events,
      s.zoneChange i = { s with links := links, migration := migration, events := events } := by
    unfold State.zoneChange
    dsimp only
    split
    · exact ⟨_, _, _, rfl⟩
    · split <;> exact ⟨_, _, _, rfl⟩
    · (repeat' split) <;> exact ⟨_, _, _, rfl⟩
    · split
      · exact ⟨_, _, _, rfl⟩
      · rw [State.demote_frame]; exact ⟨_, _, _, rfl⟩
  obtain ⟨links, migration, events, h⟩ := shape
  rw [h]

end Sys2Proof.Machine
end

