-- ==== Sys2Proof/WellFormed.lean ====
section
/-! DEFINITION. Which commands are well formed. Only a message arrival carries octets: they are one whole message,
a header of four octets and exactly the number of body octets that the header's last octet gives (R187). -/

namespace Sys2Proof

/-- The octets are one whole message: four header octets, then as many body octets as the fourth says (R187). -/
def wholeMessage (octets : List Byte) : Bool :=
  match octets with
  | _ :: _ :: _ :: len :: body => body.length == len.toNat
  | _ => false

/-- A command is well formed; every command but a message arrival is. -/
def Instr.wf : Instr → Bool
  | .messageArrival octets => wholeMessage octets
  | .powerOn | .resetLine | .unknownRequest | .attach | .lookup | .lookupHandle | .openBearer | .closeBearer
  | .detach | .retire | .admitContext | .refuse | .nextProbation | .nextSettlement | .settleContext
  | .addAllowance | .removeAllowance | .setCap | .setPlan | .reportUsage | .holdStore | .holdGrant
  | .releaseStore | .holdTimerExpiry | .periodBoundary | .sweepVisit | .openProfile | .writeProfileHeader
  | .writeTariffRow | .writeCandidates | .readProfile | .discardProfile | .stageProfile | .enterZone
  | .graceExpiry | .setCeiling | .configureLink | .probeResult | .dwellExpiry _ | .trackMonitorExpiry _
  | .carryMonitorExpiry _ | .openLink | .closeLink | .setRoute | .clearRoute | .readRoute | .shift
  | .abortShift | .failoverStep | .unparkStep | .shiftStep | .darkStep | .configureRequester | .readEvents
  | .setEventMask | .ackEvents | .quietTimerExpiry | .setLimits | .start | .readStatus | .clearVoyage
  | .resetRelease => true

end Sys2Proof
end

