-- ==== Sys2Proof/Tests/Slice0.lean ====
section
/-! SUPPORT. Tests. First the states they start from; then the commands that the well-formedness check refuses; then
single steps on the manual's own worked numbers; then, for every statement that has premises, a concrete state and
operands that meet them, clause by clause. -/

namespace Sys2Proof.Tests

open Sys2Proof.Machine

/-! ## States to start from -/

/-- The message that carries a request. -/
def say (q : Request) : Message := ⟨BitVec.ofNat 8 q.kind.code, 0x5A, q.body⟩

/-- A part in RUNNING that serves a request of requester 0 now: with its grant where it touches a context. -/
def serving (q : Request) (s : State) : State :=
  { s with
    runState := .running
    arbiter := if q.kind.touchesContext then .granted .request else s.arbiter
    port := { s.port with
      entries := s.port.entries.set 0 ⟨.master, 7, [say q]⟩
      engine := .serving 0 } }

/-- A part that serves `q` now and meets `P`. -/
structure Meets (q : Request) (s : State) (P : State → Prop) : Prop where
  serves : (serving q s).Serves 0 (say q) q
  holds : P (serving q s)

theorem say_kind (q : Request) : (say q).kind.toNat = q.kind.code := by
  have : ∀ k : Kind, (BitVec.ofNat 8 k.code).toNat = k.code := by intro k; cases k <;> rfl
  exact this q.kind

/-- The part that serves a request does serve it. -/
theorem serving_serves (q : Request) (s : State) (read : q.kind.read q.body = some q)
    (hold : s.hold.state ≠ .requested) : (serving q s).Serves 0 (say q) q := by
  have entry : (serving q s).entry 0 = ⟨.master, 7, [say q]⟩ := by
    have := State.entry_setEntry s 0 0 ⟨.master, 7, [say q]⟩
    rwa [if_pos rfl] at this
  have running : (serving q s).runState = .running := rfl
  have hold' : (serving q s).hold.state ≠ .requested := hold
  exact ⟨by simp [State.inService, show (serving q s).port.engine = .serving 0 from rfl, hold', entry],
    by simp [State.portRefusal, say_kind, entry, RequesterClass.permits, running], say_kind q, read⟩

/-- A part that serves a request meets what it meets. -/
theorem meets {q : Request} {s : State} {P : State → Prop} (read : q.kind.read q.body = some q)
    (hold : s.hold.state ≠ .requested) (h : P (serving q s)) : Meets q s P := ⟨serving_serves q s read hold, h⟩

/-- The part after reset, in RUNNING and in the mode SERVE. -/
def base : State := { State.reset with runState := .running, coverage := ⟨.serve, .serve⟩ }

/-- The part with a context written. -/
def having (h : Handle) (c : Context) (s : State) : State := s.writeContext h c

def aProbation : Context := { Context.free with state := .probation, identity := some 5, home := 7, deadline := some 30 }

def anIdle : Context :=
  { Context.free with state := .idle, identity := some 5, route := some 0, cap := 100, deadline := some 3600 }

def aCarrying : Context :=
  { anIdle with state := .carrying, dataOpen := true, voiceOpen := true, voice := some ⟨0, 0, 0, false⟩, deadline := none }

def aParked : Context := { anIdle with state := .parked, route := none, dataOpen := true }

def aLinger : Context := { anIdle with state := .linger, route := none, lingerOpen := true }

def aSettled : Context := { aLinger with lingerOpen := false, deadline := none }

/-- A store in which the handles of a list are PARKED. -/
def parkedAt (list : List Handle) : State :=
  { base with store := { base.store with contexts := list.map (fun h => (h, aParked)) } }

theorem parkedAt_ctx (list : List Handle) (h : Handle) (listed : h ∈ list) : (parkedAt list).ctx h = aParked := by
  have all : ∀ list : List Handle, h ∈ list → lookupContext (list.map (fun k => (k, aParked))) h = aParked := by
    intro list
    induction list with
    | nil => simp
    | cons k rest ih =>
      intro hh
      simp only [List.map_cons, lookupContext]
      split
      · rfl
      · exact ih ((List.mem_cons.1 hh).resolve_left (fun e => by simp_all))
  exact all list listed

/-- A profile with every row written. -/
def aProfile (role : Role) (zone grace : Nat) : ProfileSlot :=
  { ProfileSlot.default with
    role := role, zone := zone, permit := .serve, graceWindow := grace, parkLimit := 600
    eligible := Four.all true, candidates := Four.all [11, 12] }

/-- Zone 41 is LIVE in slot 0, and slots 1 to 3 hold the profiles given. -/
def bank (a b c : ProfileSlot) (present : Nat) (deadline : Option Nat) (s : State) : State :=
  { s with bank := ⟨⟨aProfile .live 41 600, a, b, c⟩, present, deadline⟩ }

/-- Zone 41 is LIVE, zone 42 OPEN, zone 43 STAGED, zone 44 GRACE until 3310. -/
def zoned : State := bank (aProfile .opened 42 300) (aProfile .staged 43 300) (aProfile .grace 44 300) 41 (some 3310) base

def aShore : LinkSlot := { LinkSlot.initial with kind := .shore }

def aScan : LinkSlot := { aShore with state := .scan, dwell := some 3000000 }

def aTrack : LinkSlot :=
  { aShore with state := .track, tracked := some 11, quality := some 20, trackMonitor := some 20000000 }

def aCarry : LinkSlot := { aTrack with state := .carry, trackMonitor := none, carryMonitor := some 5000000 }

/-- Slot 0 holds a link, under the LIVE profile of zone 41. -/
def linked (l : LinkSlot) (s : State := zoned) : State := s.setLink 0 l

/-- Slot 0 holds a SAT link of operator 11. -/
def satellite (l : LinkSlot) : State := linked { l with kind := .sat, satOperator := 11 }

/-! ## Ill-formed commands are refused -/

theorem test_message_without_its_header_refused : (Instr.messageArrival [0, 1, 0x10]).wf = false := by decide

theorem test_message_with_a_short_body_refused : (Instr.messageArrival [0, 3, 0x10, 2, 0]).wf = false := by decide

theorem test_message_with_a_long_body_refused : (Instr.messageArrival [0, 3, 0x10, 2, 0, 61, 0]).wf = false := by decide

theorem test_whole_message_well_formed : (Instr.messageArrival [0, 3, 0x10, 2, 0, 61]).wf = true := by decide

/-- The opcode table gives no row bits. -/
theorem test_no_word_spells_a_command : decodeTableWord 16 1 = none := rfl

/-! ## Single steps, with the manual's own numbers -/

/-- The state behind a command. -/
def after (c : Instr) (s : State) : Option State :=
  match exec c s with
  | .next t => some t
  | .fault _ => none
  | .refused _ => none

/-- The octets of an ATTACH from requester 1, laid out by hand from R186 to R188: header, identity 5, home 234010,
cell 3. -/
theorem test_attach_octets :
    readMessage [1, 1, 0x10, 12, 0, 0, 0, 0, 0, 0, 0, 5, 0x03, 0x92, 0x1A, 3]
      = some (1, ⟨1, 0x10, [0, 0, 0, 0, 0, 0, 0, 5, 0x03, 0x92, 0x1A, 3]⟩, [])
    ∧ Kind.read .attach [0, 0, 0, 0, 0, 0, 0, 5, 0x03, 0x92, 0x1A, 3] = some (.attach 5 234010 3) := by decide

/-- The octets of a CONFIGURE_LINK body, laid out by hand: slot 2, SHORE, operator 0, dwell 30, track 20, base code 1,
f1 10, f2 5, threshold 12, count 3 (section 7.7). -/
theorem test_configure_link_octets :
    Kind.read .configureLink [2, 1, 0, 0, 0, 30, 20, 1, 10, 5, 12, 3]
      = some (.configureLink 2 .shore 0 30 20 1 10 5 12 3) := by decide

/-- The carry monitor times of R134's table, in milliseconds. -/
theorem test_carry_monitor_times :
    { LinkSlot.initial with carryBase := .ms10, f1 := 1, f2 := 1 }.carryMs = 20
    ∧ { LinkSlot.initial with carryBase := .ms10, f1 := 1, f2 := 2 }.carryMs = 20
    ∧ { LinkSlot.initial with carryBase := .ms10, f1 := 3, f2 := 1 }.carryMs = 30
    ∧ LinkSlot.initial.carryMs = 5000
    ∧ { LinkSlot.initial with f1 := 255, f2 := 255 }.carryMs = 6502500 := by decide

/-- R83's example: with I = 30 and M = 45, 10 s is billable for 45, 40 for 60 and 61 for 90. -/
theorem test_billable_seconds :
    billable ⟨1024, 0, 0, 30, 45, true⟩ 10 = 45 ∧ billable ⟨1024, 0, 0, 30, 45, true⟩ 40 = 60
      ∧ billable ⟨1024, 0, 0, 30, 45, true⟩ 61 = 90 := by decide

/-- The row of section 4.9. -/
def cruiseRow : TariffRow := ⟨10240, 35, 900, 30, 60, true⟩

/-- Handle 61 of section 4.9, with the terms it has before a report. -/
def caller (allowances : List Allowance) (remainder overrun : Nat) (voice : VoiceRecord) : Context :=
  { aCarrying with
    allowances := allowances, remainder := remainder, overrun := overrun, cap := 5000, voice := some voice }

/-- A part with handle 61 of section 4.9 and its row. -/
def cruising (c : Context) : State :=
  linked aShore (having 61 c
    (bank (ProfileSlot.cleared .free) (ProfileSlot.cleared .free) (ProfileSlot.cleared .free) 41 none base
      |> fun s => s.setSlot 0 { aProfile .live 41 600 with rows := Vector.replicate 16 cruiseRow }))

/-- What a report leaves. -/
structure Account where
  allowances : List Allowance
  remainder : Nat
  voice : Option VoiceRecord
  overrun : Nat
  barred : Bool
  state : CtxState
  deriving DecidableEq, Repr

def account (s : Option State) : Option Account :=
  s.map (fun t =>
    let c := t.ctx 61
    ⟨c.allowances, c.remainder, c.voice, c.overrun, c.barred, c.state⟩)

/-- Report 1 of section 4.9. -/
theorem test_report_one :
    account (after .reportUsage (serving (.reportUsage 61 0 41 20000 60000 50)
      (cruising (caller [⟨.octets, 50000, 7⟩, ⟨.units, 1000, 3⟩, ⟨.seconds, 45, 9⟩] 4000 0 ⟨0, 0, 0, false⟩))))
      = some ⟨[⟨.units, 670, 3⟩], 3280, some ⟨50, 60, 0, false⟩, 0, false, .carrying⟩ := by decide

/-- Report 3 of section 4.9: the cap is met, barred is set and the context is left with no bearer. -/
theorem test_report_three :
    account (after .reportUsage (serving (.reportUsage 61 0 41 0 2000000 0)
      (cruising (caller [] 1520 1495 ⟨90, 90, 0, false⟩))))
      = some ⟨[], 4720, some ⟨90, 90, 0, false⟩, 5000, true, .idle⟩ := by decide

/-- R75: a report with all three counts zero carries the remainder unchanged, one above the block size too, and prices
nothing. -/
theorem test_empty_report_carries_the_remainder :
    account (after .reportUsage (serving (.reportUsage 61 0 41 0 0 0)
      (cruising (caller [⟨.octets, 50000, 7⟩] 20000 0 ⟨50, 60, 0, false⟩))))
      = some ⟨[⟨.octets, 50000, 7⟩], 20000, some ⟨50, 60, 0, false⟩, 0, false, .carrying⟩ := by decide

/-- R61's example: a top-up saturates at the OCTETS maximum. -/
theorem test_top_up_saturates :
    (after .addAllowance (serving (.addAllowance 0 .octets 1000000 7)
      (having 0 { anIdle with allowances := [⟨.octets, 1099511000000, 7⟩] } base))).map
        (fun t => (t.ctx 0).allowances) = some [⟨.octets, 1099511627775, 7⟩] := by decide

/-- Section 7.7 at 16.0: the third weak result demotes the slot, which joins the lost set, with LINK_WEAK. -/
theorem test_third_weak_result_demotes :
    (after .probeResult (serving (.probeResult 0 true 25 12) (linked { aCarry with demoteCounter := 2 }))).map
        (fun t => ((t.link 0).state, (t.link 0).demoteCounter, t.isLost 0, t.isPending .linkWeak,
          t.migration.walk.map (·.kind)))
      = some (.track, 0, true, true, some .failover) := by decide

/-- Slot 0's link state behind a command and the expiry of its track and carry monitors. -/
def expired (c : Instr) (s : State) : Option LinkState :=
  (after c s).bind (fun t => (after (.trackMonitorExpiry 0) t).bind (fun u =>
    (after (.carryMonitorExpiry 0) u).map (fun v => (v.link 0).state)))

/-- R151's third and fifth rows: a monitor with no time left expires, but not behind the confirming or strong result
that has restarted it. -/
theorem test_restarted_monitor_does_not_expire :
    (let tracked := linked { aTrack with trackMonitor := some 0 };
    let carried := linked { aCarry with carryMonitor := some 0 };
    expired (.dwellExpiry 0) tracked = some .scan
      ∧ expired .probeResult (serving (.probeResult 0 true 0 11) tracked) = some .track
      ∧ expired (.dwellExpiry 0) carried = some .track
      ∧ expired .probeResult (serving (.probeResult 0 true 12 11) carried) = some .carry) := by decide

/-- The attention line at the end of an ACK_EVENTS that ends a service at a quiet time of 0 (R194): inactive, but where
a due hold expiry is taken behind the answer the line follows HOLD_REVOKED. -/
theorem test_line_at_the_end_of_a_service :
    (let s := { base with
      limits := { base.limits with quiet := .zero }, events := { base.events with mask := 0, pendingSet := 1 } };
    (after .ackEvents (serving (.ackEvents 0 true) s)).map (·.events.attention) = some false
      ∧ (after .ackEvents (serving (.ackEvents 0 true)
          { s with arbiter := .held, hold := ⟨.held, some 0, true⟩ })).map (·.events.attention) = some true) := by
  decide

/-- Section 8's example: a slot that joins at cursor 700 sets the end mark there. -/
theorem test_join_resets_the_end_mark :
    ({ Migration.initial with walk := some ⟨.failover, 700, 0⟩ }.order false .failover).walk
      = some ⟨.failover, 700, 700⟩ := by decide

/-- Section 4.11 at 3,010: ENTER_ZONE makes the STAGED zone LIVE and the LIVE zone GRACE until 3,310. -/
theorem test_zone_crossing :
    (after .enterZone (serving (.enterZone 42)
      { bank (aProfile .staged 42 300) (ProfileSlot.cleared .free) (ProfileSlot.cleared .free) 41 none base with
        clock := 3010 })).map (fun t => (t.live.zone, t.zoneIn .grace, t.bank.graceDeadline, t.bank.presentZone))
      = some (42, some 41, some 3310, 42) := by decide

/-- A step takes the front command, and a message that arrives at an IDLE engine is taken at once. -/
theorem test_message_taken :
    (match step { base with pending := [.messageArrival (writeMessage 0 (say (.lookupHandle 61)))] } with
      | .next t => some (t.port.engine, t.arbiter, t.pending)
      | .fault _ => none
      | .refused _ => none) = some (.serving 0, .granted .request, []) := by decide

/-- An idle step lets 50 µs pass on a running timer. -/
theorem test_idle_step :
    (match step (linked aScan) with
      | .next t => some (t.link 0).dwell
      | .fault _ => none
      | .refused _ => none) = some (some 2999950) := by decide

/-! ## Witnesses: the premises of the statements, met clause by clause

A theorem `witness_<Name>` goes with `Obligations.<Name>`; its parts stand in the order of that statement's clauses. -/

theorem witness_IdleStepLetsTimePass : (linked aScan).pending = [] := rfl

theorem witness_PowerOnAndReset :
    { base with port := { base.port with resetAsserted := true } }.port.resetAsserted = true := rfl

theorem witness_MessageReadsBack :
    (⟨0, 0, List.replicate 255 0⟩ : Message).body.length ≤ 255 ∧ (say .start).body.length ≤ 255 :=
  ⟨le_of_eq List.length_replicate, by decide⟩

/-- One request of each kind, its fields at the ends of their ranges. -/
def widest : List Request :=
  [.attach 0xFFFFFFFFFFFFFFFF 999999 31, .lookup 1, .lookupHandle 2047, .openBearer 2047 .data true,
    .closeBearer 2047 .data, .detach 1, .retire 2047 1, .admitContext 2047 1 7 4294967295 .slow, .refuse 0 1,
    .nextProbation, .nextSettlement 2047, .settleContext 2047, .addAllowance 2047 .octets 1099511627775 255,
    .removeAllowance 2047 255, .setCap 2047 4294967295 .slow, .setPlan 2047 7,
    .reportUsage 2047 3 65535 16777215 16777215 65535, .holdStore, .releaseStore, .openProfile,
    .writeProfileHeader 65535 .dark (Four.all true) 65535 65535,
    .writeTariffRow 7 .sat 4294967295 65535 65535 255 65535, .writeCandidates 3 [16777215, 0], .writeCandidates 0 [],
    .readProfile 3 none, .readProfile 3 (some (7, .sat)), .discardProfile 3, .stageProfile, .enterZone 65535,
    .setCeiling .dark, .configureLink 3 .sat 16777215 255 255 255 255 255 255 255, .probeResult 3 false 255 999999,
    .probeResult 3 true 63 0, .openLink 3, .closeLink 3, .setRoute .default [3, 2, 1, 0], .setRoute (.home 999999) [0],
    .clearRoute (.home 0), .clearRoute .default, .readRoute (.home 999999), .shift 3 0, .abortShift,
    .configureRequester 15 .unused 255, .readEvents, .setEventMask 0x1FFFF, .ackEvents 0x1FFFF true,
    .setLimits 65535 4294967295 65535 65535 255, .start, .readStatus, .clearVoyage]

/-- Bodies that are laid out otherwise than the request they are read as: a ceiling of DARKENING's code and one of no
mode (R104, R121), a permit of DARKENING's code with a slot set whose bits 4 to 7 are set (R186), and a DEFAULT target
that carries home octets. -/
theorem test_bodies_laid_out_otherwise :
    Kind.read .setCeiling [2] = some (.setCeiling .dark) ∧ Kind.read .setCeiling [0x77] = some (.setCeiling .dark)
    ∧ Kind.read .writeProfileHeader [0, 42, 2, 0xF5, 2, 0x58, 1, 0x2C]
      = some (.writeProfileHeader 42 .dark ⟨true, false, true, false⟩ 600 300)
    ∧ Kind.read .clearRoute [1, 0xFF, 0xFF, 0xFF] = some (.clearRoute .default) := by decide

/-- Bodies of another length than their kind's, or with a field out of its range, are unreadable (R29, R102, R182). -/
theorem test_unreadable_bodies :
    Kind.read .setCeiling [] = none ∧ Kind.read .setCeiling [0, 0] = none ∧ Kind.read .lookupHandle [8, 0] = none
    ∧ Kind.read .lookup [0, 0, 0, 0, 0, 0, 0, 0] = none ∧ Kind.read .clearRoute [0, 0x0F, 0x42, 0x40] = none
    ∧ Kind.read .start [0] = none := by decide

theorem witness_RequestBodyReadsBack : ∀ q ∈ widest, q.wf = true := by decide

/-- Every one of these requests in range is read back, whole. -/
theorem test_widest_requests_read_back : ∀ q ∈ widest, q.kind.read q.body = some q := by
  unfold widest
  simp only [List.forall_mem_cons]
  and_intros <;> decide

/-- A part with requester 1 of a class and level whose queue holds `n` requests, its engine serving the first. -/
def queued (cls : RequesterClass) (level n : Nat) (m : Message) (s : State) : State :=
  { s with port := { s.port with entries := s.port.entries.set 1 ⟨cls, level, List.replicate n m⟩, engine := .serving 1 } }

theorem witness_MessageArrives :
    (let s := { base with port := { base.port with resetAsserted := true } };
      (say .start).body.length ≤ 255 ∧ s.port.resetAsserted = true)
    ∧ (let s := { base with port := { base.port with settle := 1 } };
      0 < s.port.settle)
    ∧ (let s := queued .cell 0 0 (say .start) base;
      s.port.resetAsserted = false ∧ s.port.settle = 0 ∧ (s.entry 1).level = 0)
    ∧ (let s := queued .cell 1 4 (say .start) base;
      s.port.resetAsserted = false ∧ s.port.settle = 0 ∧ (s.entry 1).level ≠ 0 ∧ 4 ≤ (s.entry 1).queue.length)
    ∧ (let s := queued .cell 7 3 (say .start) base;
      s.port.resetAsserted = false ∧ s.port.settle = 0 ∧ (s.entry 1).level ≠ 0 ∧ (s.entry 1).queue.length < 4) := by
  decide

theorem witness_RefusedBeforeItsRule :
    (let m : Message := ⟨84, 1, []⟩;
      (queued .cell 7 1 m base).inService = some (1, m) ∧ ∀ k : Kind, m.kind.toNat ≠ k.code)
    ∧ (let m := say (.lookupHandle 2047);
      let s := queued .unused 7 1 m base;
      s.inService = some (1, m) ∧ m.kind.toNat = Kind.lookupHandle.code
        ∧ (s.entry 1).cls.permits .lookupHandle = false)
    ∧ (let m := say (.lookupHandle 2047);
      let s := queued .cell 7 1 m { base with runState := .configuring };
      s.inService = some (1, m) ∧ m.kind.toNat = Kind.lookupHandle.code
        ∧ (s.entry 1).cls.permits .lookupHandle = true ∧ s.runState = .configuring
        ∧ Kind.lookupHandle.inConfiguring = false)
    ∧ (let m : Message := ⟨3, 1, [8, 0]⟩;
      let s := queued .cell 7 1 m base;
      s.inService = some (1, m) ∧ m.kind.toNat = Kind.lookupHandle.code
        ∧ (s.entry 1).cls.permits .lookupHandle = true ∧ s.runState = .running
        ∧ Kind.lookupHandle.read m.body = none)
    ∧ (let m : Message := ⟨49, 1, [3, 0, 64, 0, 0, 11]⟩;
      let s := queued .link 7 1 m base;
      s.inService = some (1, m) ∧ m.kind.toNat = Kind.probeResult.code ∧ (s.entry 1).cls.permits .probeResult = true
        ∧ s.runState = .running ∧ Kind.probeResult.read m.body = none ∧ probeSlot m.body = some 3)
    ∧ (let m : Message := ⟨49, 1, [4, 0, 20, 0, 0, 11]⟩;
      let s := queued .link 7 1 m base;
      s.inService = some (1, m) ∧ m.kind.toNat = Kind.probeResult.code ∧ (s.entry 1).cls.permits .probeResult = true
        ∧ s.runState = .running ∧ Kind.probeResult.read m.body = none ∧ probeSlot m.body = none) := by
  refine ⟨⟨by decide, ?_⟩, by decide, by decide, by decide, by decide, by decide⟩
  intro k
  cases k <;> decide

theorem witness_CommandNotDueWaits :
    (base.inService = none ∧ Kind.ofCode Kind.start.code = some .start ∧ base.arbiter ≠ .granted .hold)
    ∧ (base.hold.state ≠ .held ∧ { base.hold with state := .held }.timer = none)
    ∧ (State.reset.runState = .configuring ∧ 4294967295 ≤ { base with clock := 4294967295 }.clock)
    ∧ base.arbiter ≠ .granted .sweep ∧ base.reached base.bank.graceDeadline = false
    ∧ { zoned with clock := 3309 }.reached zoned.bank.graceDeadline = false
    ∧ (base.link 3).dwell = none
      ∧ ((base.link 3).trackMonitor ≠ some 0 ∧ ((linked aTrack).link 0).trackMonitor ≠ some 0)
      ∧ ((base.link 3).carryMonitor ≠ some 0 ∧ ((linked aCarry).link 0).carryMonitor ≠ some 0)
    ∧ (∀ k, base.arbiter ≠ .granted (.walk k)) ∧ base.events.quiet = none ∧ base.port.resetAsserted = false := by
  refine ⟨by decide, by decide, by decide, by decide, by decide, by decide, by decide, by decide, by decide, ?_,
    by decide, by decide⟩
  intro k
  cases k <;> decide

/-- A part under the master hold. -/
def held (s : State) : State := { s with arbiter := .held, hold := ⟨.held, some 250000, false⟩ }

theorem witness_EndOfService :
    (let s := { held base with hold := ⟨.held, some 0, true⟩ };
      s.hold.expiryDue = true ∧ s.hold.state = .held)
    ∧ ¬(base.hold.expiryDue = true ∧ base.hold.state = .held) ∧ (held base).arbiter = .held
    ∧ (let s := serving (.lookupHandle 2047) base;
      s.arbiter = .granted .request ∧ s.contends .request = true)
    ∧ (let s := { base with hold := ⟨.held, some 0, false⟩ };
      s.arbiter ≠ .held ∧ (∀ c ∈ allContenders, s.arbiter ≠ .granted c) ∧ s.hold.state = .held)
    ∧ (base.arbiter ≠ .held ∧ base.hold.state ≠ .held ∧ ∀ c ∈ allContenders, base.contends c = false)
    ∧ (let s := { base with sweep := ⟨.passing, 2047, true⟩ };
      s.arbiter ≠ .held ∧ s.contends .sweep = true ∧ ∀ c ∈ allContenders, s.contends c = true → c = .sweep) := by
  decide

theorem witness_EventConcludes :
    (serving .start base).port.engine = .serving 0
    ∧ (base.setEngine (.awaitingGrant 15)).port.engine = .awaitingGrant 15
    ∧ (base.port.engine = .idle ∧ base.chooseHead = none)
    ∧ (let s := (queued .cell 1 1 (say .start) base).setEngine .idle;
      s.port.engine = .idle ∧ s.chooseHead = some 1 ∧ (s.entry 1).queue.head? = some (say .start))
    ∧ (let s := (queued .cell 1 1 (say (.lookupHandle 2047)) base).setEngine .idle;
      s.port.engine = .idle ∧ s.chooseHead = some 1 ∧ s.forStore 1 (say (.lookupHandle 2047)) = true
        ∧ s.hold.state ≠ .held)
    ∧ (let s := { base with sweep := ⟨.passing, 2047, true⟩, arbiter := .granted .sweep };
      s.arbiter = .granted .sweep ∧ s.conclude.contends .sweep = true)
    ∧ ((∀ k ∈ allContenders, (held base).arbiter ≠ .granted k) ∧ (held base).hold.state = .held)
    ∧ ((∀ k ∈ allContenders, base.arbiter ≠ .granted k) ∧ base.hold.state ≠ .held) := by decide

theorem witness_ConfigureRequesterTaken :
    Meets (.configureRequester 1 .unused 255) (queued .cell 7 4 (say .start) base) (fun s => (s.entry 1).level = 7)
    ∧ Meets (.configureRequester 15 .cell 8) base (fun s => (s.entry 15).level = 0) := by
  and_intros <;> exact meets (by decide) (by decide) (by decide)

theorem witness_AttachServed :
    Meets (.attach 5 7 31) (having 2047 anIdle base) (fun s => s.indexed 5 = some 2047)
    ∧ Meets (.attach 5 7 0) { base with coverage := ⟨.quiet, .serve⟩ }
      (fun s => s.indexed 5 = none ∧ s.coverage.mode ≠ .serve)
    ∧ Meets (.attach 5 7 0) (parkedAt (List.finRange 2048))
      (fun s => s.indexed 5 = none ∧ s.coverage.mode = .serve ∧ ∀ h, (s.ctx h).state ≠ .free)
    ∧ Meets (.attach 5 7 0) (parkedAt [0, 1])
      (fun s => s.indexed 5 = none ∧ s.coverage.mode = .serve ∧ (s.ctx 2).state = .free
        ∧ ∀ h, h < 2 → (s.ctx h).state ≠ .free) := by
  refine ⟨meets (by decide) (by decide) (by decide), meets (by decide) (by decide) (by decide),
    meets (by decide) (by decide) ⟨rfl, rfl, ?_⟩,
    meets (by decide) (by decide) ⟨rfl, rfl, by decide, ?_⟩⟩
  · intro h
    have : (parkedAt (List.finRange 2048)).ctx h = aParked := parkedAt_ctx _ h (List.mem_finRange h)
    exact fun e => absurd (this ▸ e) (by decide)
  · intro h hh
    have listed : h ∈ ([0, 1] : List Handle) := by
      have : h.val < 2 := hh
      simp only [List.mem_cons, List.not_mem_nil, or_false, Fin.ext_iff, Fin.val_zero, Fin.val_one]
      omega
    have : (parkedAt [0, 1]).ctx h = aParked := parkedAt_ctx _ h listed
    exact fun e => absurd (this ▸ e) (by decide)

theorem witness_LookupsServed :
    Meets (.lookup 5) (having 0 anIdle base) (fun s => s.indexed 5 = some 0)
    ∧ Meets (.lookup 6) (having 0 anIdle base) (fun s => s.indexed 6 = none)
    ∧ Meets (.lookupHandle 2047) (having 2047 aSettled base) (fun s => (s.ctx 2047).state ≠ .free)
    ∧ Meets (.lookupHandle 2047) base (fun s => (s.ctx 2047).state = .free) := by
  and_intros <;> exact meets (by decide) (by decide) (by decide)

theorem witness_BearersServed :
    Meets (.openBearer 0 .voice false) (having 0 anIdle base)
      (fun s => (s.ctx 0).state = .idle ∧ s.coverage.mode = .serve ∧ (s.ctx 0).barred = false
        ∧ (s.ctx 0).voiceOpen = false)
    ∧ Meets (.openBearer 0 .voice true)
      { having 0 { aCarrying with voiceOpen := false, barred := true } base with coverage := ⟨.quiet, .serve⟩ }
      (fun s => (s.ctx 0).state = .carrying ∧ s.coverage.mode = .quiet ∧ (s.ctx 0).barred = true
        ∧ (s.ctx 0).voiceOpen = false)
    ∧ Meets (.openBearer 0 .data false) (having 0 anIdle base)
      (fun s => (s.ctx 0).state = .idle ∧ s.coverage.mode = .serve ∧ (s.ctx 0).barred = false
        ∧ (s.ctx 0).dataOpen = false)
    ∧ Meets (.closeBearer 0 .voice) (having 0 aCarrying base)
      (fun s => (s.ctx 0).state = .carrying ∧ (s.ctx 0).voiceOpen = true)
    ∧ Meets (.closeBearer 0 .data) (having 0 aParked base)
      (fun s => (s.ctx 0).state = .parked ∧ (s.ctx 0).dataOpen = true) := by
  and_intros <;> exact meets (by decide) (by decide) (by decide)

theorem witness_BearersRefused :
    Meets (.openBearer 2047 .voice false) base (fun s => (s.ctx 2047).state = .free)
    ∧ Meets (.openBearer 0 .voice false) (having 0 aProbation base) (fun s => (s.ctx 0).state = .probation)
    ∧ Meets (.openBearer 0 .data false) (having 0 aParked base) (fun s => (s.ctx 0).state = .parked)
    ∧ Meets (.openBearer 0 .data true) { having 0 anIdle base with coverage := ⟨.quiet, .serve⟩ }
      (fun s => (s.ctx 0).state = .idle ∧ s.coverage.mode = .quiet)
    ∧ Meets (.openBearer 0 .data true) (having 0 { anIdle with barred := true } base)
      (fun s => (s.ctx 0).state = .idle ∧ s.coverage.mode = .serve ∧ (s.ctx 0).barred = true)
    ∧ Meets (.openBearer 0 .voice true) (having 0 aCarrying base)
      (fun s => (s.ctx 0).state = .carrying ∧ s.coverage.mode = .serve ∧ (s.ctx 0).voiceOpen = true)
    ∧ Meets (.openBearer 0 .data true) (having 0 anIdle base)
      (fun s => s.coverage.mode = .serve ∧ (s.ctx 0).barred = false ∧ (s.ctx 0).dataOpen = false)
    ∧ Meets (.closeBearer 2047 .data) base (fun s => (s.ctx 2047).state = .free)
    ∧ Meets (.closeBearer 0 .data) (having 0 anIdle base)
      (fun s => (s.ctx 0).state ≠ .free ∧ (s.ctx 0).dataOpen = false) := by
  and_intros <;> exact meets (by decide) (by decide) (by decide)

theorem witness_RetirementServed :
    Meets (.detach 6) base (fun s => s.indexed 6 = none)
    ∧ Meets (.detach 5) (having 0 aProbation base) (fun s => s.indexed 5 = some 0 ∧ (s.ctx 0).state = .probation)
    ∧ Meets (.detach 5) (having 2047 aParked base) (fun s => s.indexed 5 = some 2047 ∧ (s.ctx 2047).state = .parked)
    ∧ Meets (.retire 0 6) (having 0 anIdle base) (fun s => (s.ctx 0).identity ≠ some 6)
    ∧ Meets (.retire 0 5) (having 0 aLinger base)
      (fun s => (s.ctx 0).state = .linger ∧ (s.ctx 0).identity = some 5)
    ∧ Meets (.retire 0 5) (having 0 aProbation base)
      (fun s => (s.ctx 0).state = .probation ∧ (s.ctx 0).identity = some 5)
    ∧ Meets (.retire 0 5) (having 0 aCarrying base)
      (fun s => (s.ctx 0).state = .carrying ∧ (s.ctx 0).identity = some 5) := by
  and_intros <;> exact meets (by decide) (by decide) (by decide)

theorem witness_AdmitServed :
    Meets (.admitContext 0 6 7 4294967295 .slow) (having 0 aProbation base) (fun s => (s.ctx 0).identity ≠ some 6)
    ∧ Meets (.admitContext 0 5 7 0 .bar) (having 0 anIdle base)
      (fun s => (s.ctx 0).state ≠ .free ∧ (s.ctx 0).state ≠ .probation ∧ (s.ctx 0).identity = some 5)
    ∧ Meets (.admitContext 0 5 7 0 .bar) (having 0 aProbation (linked aCarry))
      (fun s => (s.ctx 0).state = .probation ∧ (s.ctx 0).identity = some 5
        ∧ s.selectRoute (s.ctx 0).home = some 0)
    ∧ Meets (.admitContext 0 5 7 0 .bar) (having 0 aProbation base)
      (fun s => (s.ctx 0).state = .probation ∧ (s.ctx 0).identity = some 5
        ∧ s.selectRoute (s.ctx 0).home = none) := by
  and_intros <;> exact meets (by decide) (by decide) (by decide)

theorem witness_RefuseAndSettleServed :
    Meets (.refuse 0 5) base (fun s => (s.ctx 0).state = .free)
    ∧ Meets (.refuse 0 5) (having 0 aLinger base)
      (fun s => (s.ctx 0).state ≠ .free ∧ (s.ctx 0).state ≠ .probation ∧ (s.ctx 0).identity = some 5)
    ∧ Meets (.refuse 0 5) (having 0 aProbation base)
      (fun s => (s.ctx 0).state = .probation ∧ (s.ctx 0).identity = some 5)
    ∧ Meets (.settleContext 0) base (fun s => (s.ctx 0).state = .free)
    ∧ Meets (.settleContext 0) (having 0 aLinger base)
      (fun s => (s.ctx 0).state ≠ .free ∧ (s.ctx 0).lingerOpen = true)
    ∧ Meets (.settleContext 0) (having 0 aSettled base)
      (fun s => (s.ctx 0).state = .linger ∧ (s.ctx 0).lingerOpen = false) := by
  and_intros <;> exact meets (by decide) (by decide) (by decide)

theorem witness_QueueReportsServed :
    Meets .nextProbation (having 0 { aProbation with handed := true } base)
      (fun s => s.store.probation = [0] ∧ (s.ctx 0).handed = true)
    ∧ Meets .nextProbation (having 1 aProbation (having 0 { aProbation with handed := true } base))
      (fun s => s.store.probation = [0] ++ 1 :: [] ∧ (s.ctx 0).handed = true ∧ (s.ctx 1).handed = false)
    ∧ Meets (.nextSettlement 1) (having 0 aLinger base) (fun s => s.store.settlement.length ≤ 1)
    ∧ Meets (.nextSettlement 1) (having 1 aSettled (having 0 aLinger base))
      (fun s => s.store.settlement[1]? = some 1) := by
  and_intros <;> exact meets (by decide) (by decide) (by decide)

theorem witness_TermsRefused :
    Meets (.addAllowance 0 .units 1 0) base (fun s => (s.ctx 0).state = .free)
    ∧ Meets (.removeAllowance 0 0) (having 0 aProbation base) (fun s => (s.ctx 0).state = .probation)
    ∧ Meets (.setCap 0 0 .bar) (having 0 aSettled base)
      (fun s => (s.ctx 0).state = .linger ∧ (s.ctx 0).lingerOpen = false)
    ∧ Meets (.setPlan 0 7) (having 0 aProbation base) (fun s => (s.ctx 0).state = .probation) := by
  and_intros <;> exact meets (by decide) (by decide) (by decide)

/-- An IDLE context with allowances. -/
def funded (list : List Allowance) : State := having 0 { anIdle with allowances := list } base

theorem witness_AllowancesAddedAndRemoved :
    Meets (.addAllowance 0 .octets 1 7) (funded [⟨.units, 1, 7⟩])
      (fun s => (s.ctx 0).termsOpen ∧ (s.ctx 0).allowances = [] ++ ⟨.units, 1, 7⟩ :: [])
    ∧ Meets (.addAllowance 0 .seconds 1048575 7) (funded [⟨.units, 1, 6⟩, ⟨.seconds, 1, 7⟩, ⟨.units, 1, 8⟩])
      (fun s => (s.ctx 0).termsOpen
        ∧ (s.ctx 0).allowances = [⟨.units, 1, 6⟩] ++ ⟨.seconds, 1, 7⟩ :: [⟨.units, 1, 8⟩])
    ∧ Meets (.addAllowance 0 .units 4294967295 5)
      (funded [⟨.units, 1, 6⟩, ⟨.seconds, 1, 7⟩, ⟨.units, 1, 8⟩, ⟨.octets, 1, 9⟩])
      (fun s => (s.ctx 0).termsOpen ∧ (∀ a ∈ (s.ctx 0).allowances, a.tag ≠ 5) ∧ 4 ≤ (s.ctx 0).allowances.length)
    ∧ Meets (.addAllowance 0 .units 4294967295 5) (funded [⟨.units, 1, 6⟩, ⟨.seconds, 1, 7⟩, ⟨.units, 1, 8⟩])
      (fun s => (s.ctx 0).termsOpen ∧ (∀ a ∈ (s.ctx 0).allowances, a.tag ≠ 5) ∧ (s.ctx 0).allowances.length < 4)
    ∧ Meets (.removeAllowance 0 5) (funded [⟨.units, 1, 6⟩])
      (fun s => (s.ctx 0).termsOpen ∧ ∀ a ∈ (s.ctx 0).allowances, a.tag ≠ 5)
    ∧ Meets (.removeAllowance 0 6) (funded [⟨.units, 1, 6⟩])
      (fun s => (s.ctx 0).termsOpen ∧ (s.ctx 0).allowances = [] ++ ⟨.units, 1, 6⟩ :: []) := by
  and_intros <;> exact meets (by decide) (by decide) (by decide)

theorem witness_CapAndPlanSet :
    Meets (.setCap 0 0 .slow) (having 0 { aLinger with overrun := 100 } base) (fun s => (s.ctx 0).termsOpen)
    ∧ Meets (.setCap 0 4294967295 .bar) (having 0 { anIdle with overrun := 100, barred := true } base)
      (fun s => (s.ctx 0).termsOpen)
    ∧ Meets (.setPlan 0 7) (having 0 aParked base) (fun s => (s.ctx 0).termsOpen) := by
  and_intros <;> exact meets (by decide) (by decide) (by decide)

theorem witness_DrawFollowsTheList :
    ∀ a ∈ [(⟨.units, 1, 6⟩ : Allowance), ⟨.octets, 1099511627775, 7⟩], 0 < a.balance := by decide

theorem witness_RatingStages :
    (1 ≤ cruiseRow.blockSize ∧ 1 ≤ cruiseRow.increment) ∧ aCarrying.allowances = [] ∧ (0 < 0 ∨ 0 < 1)
      ∧ aCarrying.cap ≤ aCarrying.cap ∧ (⟨1048575, 1048575, 59, false⟩ : VoiceRecord).fraction < 60 := by decide

/-- A report on handle 0 under `zoned`, tagged with a zone. -/
abbrev ReportMeets (tag : Nat) (P : State → Prop) : Prop :=
  Meets (.reportUsage 0 3 tag 16777215 16777215 65535) (having 0 aCarrying zoned)
    (fun s => (s.ctx 0).termsOpen ∧ (s.ctx 0).overrun ≤ (s.ctx 0).cap ∧ P s)

theorem witness_ReportUsageServed :
    Meets (.reportUsage 0 3 0 0 0 0) base (fun s => (s.ctx 0).state = .free)
    ∧ Meets (.reportUsage 0 3 0 0 0 0) (having 0 aProbation base) (fun s => (s.ctx 0).state = .probation)
    ∧ Meets (.reportUsage 0 3 0 0 0 0) (having 0 aSettled base)
      (fun s => (s.ctx 0).state = .linger ∧ (s.ctx 0).lingerOpen = false)
    ∧ ReportMeets 0 (fun s => s.liveSlot = 0) ∧ ReportMeets 41 (fun s => 41 = s.live.zone)
    ∧ ReportMeets 44
      (fun s => 44 ≠ s.live.zone ∧ s.slotIn .grace = some 3 ∧ (s.bank.slots.get 3).zone = 44)
    ∧ ReportMeets 43
      (fun s => 43 ≠ s.live.zone ∧ s.slotIn .grace = some 3 ∧ (s.bank.slots.get 3).zone ≠ 43) := by
  and_intros <;> exact meets (by decide) (by decide) (by decide)

theorem witness_ReportMoneyAccounted : ReportMeets 0 (fun _ => True) := meets (by decide) (by decide) (by decide)

theorem witness_MasterHoldServed :
    Meets .holdStore (held base) (fun s => s.hold.state = .held)
    ∧ Meets .holdStore base (fun s => s.hold.state ≠ .held)
    ∧ (let s := { serving .holdStore base with arbiter := .granted .hold, hold := ⟨.requested, none, false⟩ };
      s.arbiter = .granted .hold ∧ s.hold.state = .requested ∧ s.port.engine = .serving 0
        ∧ (s.entry 0).queue.head? = some (say .holdStore))
    ∧ Meets .releaseStore (held base) (fun s => s.hold.state = .held)
    ∧ Meets .releaseStore base (fun s => s.hold.state ≠ .held)
    ∧ (let s := serving .readStatus (held base);
      s.hold.state = .held ∧ s.hold.timer ≠ none ∧ s.port.engine = .serving 0)
    ∧ ((held base).hold.state = .held ∧ (held base).hold.timer ≠ none ∧ (held base).port.engine = .idle) := by
  and_intros <;> first | exact meets (by decide) (by decide) (by decide) | decide

theorem held_arbiter : ArbiterInv (held base) where
  held := by decide
  granted := by intro c h; simp [held] at h
  idle := by intro h; simp [held] at h
  engineIdle := by decide
  engineHolds := by decide
  grantServes := by intro h; simp [held] at h
  engineServes := by intro r m h; simp [held, base, State.reset] at h

theorem witness_HoldProtectsContexts :
    ArbiterInv (held base) ∧ (held base).hold.state = .held ∧ (held base).inService = none
      ∧ ∃ t, exec .periodBoundary (held base) = .next t := ⟨held_arbiter, rfl, rfl, _, rfl⟩

/-- The sweep's granted visit of a handle at a clock. -/
def visiting (h : Handle) (clock : Nat) (s : State) : State :=
  { s with sweep := ⟨.passing, h, true⟩, arbiter := .granted .sweep, clock := clock }

/-- The visit of handle 2047, holding `c`, one period boundary before a deadline and at it. -/
abbrev VisitMeets (c : Context) (clock : Nat) (P : Context → Option Nat → Prop) : Prop :=
  let s := visiting 2047 clock (having 2047 c base);
  s.arbiter = .granted .sweep ∧ s.sweep.pass = .passing ∧ s.clock = clock
    ∧ P (s.ctx s.sweep.cursor) (s.ctx s.sweep.cursor).deadline

theorem witness_ClockAndSweep :
    (let s := { base with clock := 4294967294 };
      s.runState = .running ∧ s.clock < 4294967295)
    ∧ VisitMeets anIdle 3599 (fun _ d => d = some 3600)
    ∧ VisitMeets { aCarrying with deadline := some 9 } 9 (fun c d => d = some 9 ∧ c.state = .carrying)
    ∧ VisitMeets aProbation 30 (fun c d => d = some 30 ∧ c.state = .probation)
    ∧ VisitMeets anIdle 3600 (fun c d => d = some 3600 ∧ c.state = .idle)
    ∧ VisitMeets aParked 3600 (fun c d => d = some 3600 ∧ c.state = .parked)
    ∧ VisitMeets aLinger 3600 (fun c d => d = some 3600 ∧ c.state = .linger ∧ c.lingerOpen = true)
    ∧ VisitMeets { aSettled with deadline := some 0 } 0
      (fun c d => d = some 0 ∧ c.state = .linger ∧ c.lingerOpen = false) := by
  and_intros <;> decide

theorem witness_ProfileSlotsServed :
    Meets .openProfile zoned (fun s => (s.bank.slots.get 1).role = .opened)
    ∧ Meets .openProfile base (fun s => (∀ j, (s.bank.slots.get j).role ≠ .opened) ∧ (s.bank.slots.get 1).role = .free
      ∧ ∀ j, j < 1 → (s.bank.slots.get j).role ≠ .free)
    ∧ Meets (.discardProfile 1) zoned (fun s => (s.bank.slots.get 1).role = .opened)
    ∧ Meets (.discardProfile 3) zoned (fun s => (s.bank.slots.get 3).role = .grace)
    ∧ Meets (.readProfile 3 (some (7, .sat))) zoned (fun _ => True) := by
  and_intros <;> exact meets (by decide) (by decide) (by decide)

theorem witness_ProfileWritesServed :
    Meets (.writeProfileHeader 0 .dark (Four.all false) 65535 601) base
      (fun s => ∀ j, (s.bank.slots.get j).role ≠ .opened)
    ∧ Meets (.writeProfileHeader 65535 .serve (Four.all true) 65535 601) zoned
      (fun s => (s.bank.slots.get 1).role = .opened ∧ ∀ j, j < 1 → (s.bank.slots.get j).role ≠ .opened)
    ∧ Meets (.writeTariffRow 7 .sat 255 0 0 0 301) zoned (fun s => (s.bank.slots.get 1).role = .opened)
    ∧ Meets (.writeTariffRow 7 .sat 1048577 0 0 61 300) zoned (fun s => (s.bank.slots.get 1).role = .opened)
    ∧ Meets (.writeTariffRow 0 .shore 256 0 0 0 301) zoned (fun s => (s.bank.slots.get 1).role = .opened)
    ∧ Meets (.writeTariffRow 0 .shore 1048576 65535 65535 61 301) zoned (fun s => (s.bank.slots.get 1).role = .opened)
    ∧ Meets (.writeCandidates 3 [1000000, 999999, 1, 2, 3, 4, 5, 6]) zoned
      (fun s => (s.bank.slots.get 1).role = .opened) := by
  and_intros <;> exact meets (by decide) (by decide) (by decide)

theorem zoned_bank : BankInv zoned.bank where
  live := by decide
  once := by decide
  liveZone := by decide
  stagedZone := by decide
  deadline := by decide
  written := by decide
  rows := by decide

theorem witness_StageProfileServed :
    BankInv zoned.bank ∧ Meets .stageProfile zoned (fun s => (s.bank.slots.get 1).role = .opened)
    ∧ BankInv base.bank ∧ Meets .stageProfile base (fun s => ∀ j, (s.bank.slots.get j).role ≠ .opened) :=
  ⟨zoned_bank, meets (by decide) (by decide) (by decide),
    ⟨by decide, by decide, by decide, by decide, by decide, by decide, by decide⟩,
    meets (by decide) (by decide) (by decide)⟩

theorem witness_PromotionExchangesRoles :
    (BankInv zoned.bank ∧ (zoned.bank.slots.get 2).role = .staged ∧ (zoned.bank.slots.get 3).role = .grace)
    ∧ ((linked aScan).link 0).kind = .shore ∧ ((satellite aTrack).link 0).kind ≠ .shore
    ∧ (((linked { aTrack with tracked := some 12 }).link 0).tracked = some 12
      ∧ (linked aTrack).candidates 0 = [11] ++ 12 :: [])
    ∧ (((linked { aTrack with tracked := some 13 }).link 0).tracked = some 13 ∧ 13 ∉ (linked aTrack).candidates 0)
    ∧ (((linked aCarry).link 0).state = .carry ∧ (linked aCarry).eligible 0 = true)
    ∧ (((linked aCarry base).link 0).state = .carry ∧ (linked aCarry base).eligible 0 = false) :=
  ⟨⟨zoned_bank, rfl, rfl⟩, by decide, by decide, by decide, by decide, by decide, by decide⟩

theorem witness_ZonesEntered :
    BankInv zoned.bank ∧ Meets (.enterZone 41) zoned (fun s => 41 = s.live.zone)
    ∧ Meets (.enterZone 43) zoned (fun s => (s.bank.slots.get 2).role = .staged ∧ (s.bank.slots.get 2).zone = 43)
    ∧ Meets (.enterZone 44) zoned (fun s => (s.bank.slots.get 3).role = .grace ∧ (s.bank.slots.get 3).zone = 44)
    ∧ Meets (.enterZone 65535) zoned (fun s => 65535 ≠ s.live.zone ∧ ∀ i, (s.bank.slots.get i).zone ≠ 65535)
    ∧ (let s := { zoned with clock := 3310 };
      (s.bank.slots.get 3).role = .grace ∧ s.bank.graceDeadline = some 3310 ∧ 3310 ≤ s.clock) :=
  ⟨zoned_bank, meets (by decide) (by decide) (by decide), meets (by decide) (by decide) (by decide),
    meets (by decide) (by decide) (by decide), meets (by decide) (by decide) (by decide), by decide⟩

theorem witness_CeilingAndRecomputation :
    (let s := { zoned with coverage := ⟨.quiet, .dark⟩ };
      s.target = .dark ∧ s.coverage.mode = .quiet)
    ∧ (let s := { zoned with coverage := ⟨.darkening, .dark⟩ };
      s.target = .dark ∧ s.coverage.mode = .darkening)
    ∧ (base.target = .dark ∧ State.reset.coverage.mode = .dark)
    ∧ (let s := { zoned with coverage := ⟨.darkening, .quiet⟩ };
      s.target ≠ .dark ∧ s.coverage.mode = .darkening)
    ∧ (zoned.target = .serve ∧ zoned.coverage.mode = .serve)
    ∧ (let s := { zoned with coverage := ⟨.dark, .quiet⟩ };
      s.target = .quiet ∧ s.coverage.mode = .dark)
    ∧ Meets (.setCeiling .serve) zoned (fun s => Permit.serve = s.coverage.ceiling)
    ∧ Meets (.setCeiling .dark) zoned (fun s => Permit.dark ≠ s.coverage.ceiling)
    ∧ (let m : Message := ⟨BitVec.ofNat 8 Kind.setCeiling.code, 1, [2]⟩;
      (queued .master 7 1 m zoned).Serves 1 m (.setCeiling .dark) ∧ m.body ≠ (Request.setCeiling .dark).body) := by
  and_intros <;> first | exact meets (by decide) (by decide) (by decide) | decide

/-- CONFIGURE_LINK of slot 0 with a kind and an operator, its other settings at the ends of their ranges. -/
abbrev LinkMeets (kind : LinkKind) (operator : Nat) (s : State) (P : LinkSlot → Prop) : Prop :=
  Meets (.configureLink 0 kind operator 0 255 255 0 1 64 16) s (fun s => P (s.link 0))

theorem witness_ConfigureLinkServed :
    LinkMeets .unused 0 base (fun l => l.state = .off)
    ∧ LinkMeets .sat 1000000 base (fun l => l.state = .off ∧ LinkKind.sat ≠ l.kind)
    ∧ LinkMeets .unused 0 (linked aTrack) (fun l => l.state = .track)
    ∧ LinkMeets .sat 0 (linked aScan) (fun l => l.state = .scan ∧ LinkKind.sat ≠ l.kind)
    ∧ LinkMeets .sat 12 (satellite aScan) (fun l => l.state = .scan ∧ LinkKind.sat = l.kind ∧ 12 ≠ l.satOperator)
    ∧ LinkMeets .shore 1000000 (linked aScan) (fun l => l.state = .scan ∧ LinkKind.shore = l.kind)
    ∧ LinkMeets .sat 12 (satellite aTrack)
      (fun l => l.state = .track ∧ 12 ≠ l.satOperator ∧ l.tracked ≠ some 12)
    ∧ LinkMeets .sat 11 (satellite aTrack) (fun l => l.state = .track ∧ LinkKind.sat = l.kind ∧ 11 = l.satOperator)
    ∧ LinkMeets .unused 0 (linked aCarry) (fun l => l.state = .carry)
    ∧ LinkMeets .sat 11 (linked aCarry) (fun l => l.state = .carry ∧ LinkKind.sat ≠ l.kind)
    ∧ LinkMeets .sat 12 (satellite aCarry) (fun l => l.state = .carry ∧ LinkKind.sat = l.kind)
    ∧ ({ LinkSlot.initial with f1 := 1, f2 := 1 }.f1 = 1 ∧ 1 ≤ LinkSlot.initial.f1 ∧ 1 ≤ LinkSlot.initial.f2) := by
  and_intros <;> first | exact meets (by decide) (by decide) (by decide) | decide

/-- A probe result for slot 0. -/
abbrev ProbeMeets (success : Bool) (quality operator : Nat) (s : State) (P : State → LinkSlot → Prop) : Prop :=
  Meets (.probeResult 0 success quality operator) s (fun s => P s (s.link 0))

theorem witness_ProbeResultServed :
    ProbeMeets true 63 11 base (fun _ l => l.state = .off)
    ∧ ProbeMeets true 63 11 (linked aScan) (fun s l => l.state = .scan ∧ (s.candidates 0)[l.cursor]? = some 11)
    ∧ ProbeMeets true 63 12 (linked aScan) (fun s l => l.state = .scan ∧ (s.candidates 0)[l.cursor]? ≠ some 12)
    ∧ ProbeMeets false 255 12 (linked { aScan with cursor := 1 }) (fun s l => l.state = .scan ∧ s.candidates 0 ≠ [])
    ∧ ProbeMeets false 255 12 (linked aScan base) (fun s l => l.state = .scan ∧ s.candidates 0 = [])
    ∧ ProbeMeets true 0 11 (linked aTrack) (fun _ l => l.state = .track ∧ l.tracked = some 11)
    ∧ ProbeMeets true 0 12 (linked aTrack) (fun _ l => l.state = .track ∧ l.tracked ≠ some 12)
    ∧ ProbeMeets true 12 11 (linked aCarry)
      (fun _ l => l.state = .carry ∧ l.tracked = some 11 ∧ l.demoteThreshold ≤ 12)
    ∧ ProbeMeets true 11 11 (linked { aCarry with demoteCounter := 1 })
      (fun _ l => l.state = .carry ∧ ¬l.demoteThreshold ≤ 11 ∧ l.demoteCounter + 1 < l.demoteCount)
    ∧ ProbeMeets false 0 0 (linked { aCarry with demoteCounter := 2 })
      (fun _ l => l.state = .carry ∧ l.demoteCount ≤ l.demoteCounter + 1) := by
  and_intros <;> exact meets (by decide) (by decide) (by decide)

theorem witness_LinkTimersExpire :
    (((linked aScan).link 0).state = .scan ∧ ((linked aScan).link 0).dwell ≠ none)
    ∧ (let l := (linked { aTrack with trackMonitor := some 0 }).link 0;
      l.state = .track ∧ l.trackMonitor = some 0)
    ∧ (let l := (linked { aCarry with carryMonitor := some 0 }).link 0;
      l.state = .carry ∧ l.carryMonitor = some 0) := by decide

/-- The part with a set of lost slots, a FAILOVER walk in progress. -/
def losing (lost : Four Bool) (s : State) : State :=
  { s with migration := { s.migration with lost := lost, walk := some ⟨.failover, 5, 0⟩ } }

theorem witness_LinksOpenedAndClosed :
    Meets (.openLink 0) (linked aScan) (fun s => (s.link 0).state ≠ .track)
    ∧ Meets (.openLink 0) (linked aTrack base) (fun s => (s.link 0).state = .track ∧ s.eligible 0 = false)
    ∧ Meets (.openLink 0) (losing (Four.all true) (linked aTrack))
      (fun s => (s.link 0).state = .track ∧ s.eligible 0 = true ∧ s.isLost 0 = true)
    ∧ Meets (.openLink 0) (linked aTrack)
      (fun s => (s.link 0).state = .track ∧ s.eligible 0 = true ∧ s.isLost 0 = false ∧ s.migration.parkedTotal = 0)
    ∧ Meets (.openLink 0) (having 0 aParked (linked aTrack))
      (fun s => (s.link 0).state = .track ∧ s.eligible 0 = true ∧ s.isLost 0 = false ∧ 0 < s.migration.parkedTotal)
    ∧ Meets (.closeLink 0) (linked aTrack) (fun s => (s.link 0).state ≠ .carry)
    ∧ Meets (.closeLink 0) (linked aCarry) (fun s => (s.link 0).state = .carry) := by
  and_intros <;> exact meets (by decide) (by decide) (by decide)

theorem witness_WalksOrderedAndChosen :
    Migration.initial.walk = none ∧ { Migration.initial with walk := some ⟨.dark, 2047, 0⟩ }.walk ≠ none
    ∧ { Migration.initial with walk := some ⟨.dark, 2047, 0⟩ }.walk = some ⟨.dark, 2047, 0⟩
    ∧ { Migration.initial with walk := some ⟨.failover, 2047, 5⟩ }.walk = some ⟨.failover, 2047, 5⟩
    ∧ { Migration.initial with suspended := some ⟨.shift, 9, 0⟩ }.suspended = some ⟨.shift, 9, 0⟩
    ∧ (Migration.initial.suspended = none ∧ Migration.initial.orders = ⟨false, false, false, false⟩)
    ∧ { Migration.initial with orders := ⟨false, false, true, true⟩ }.orders = ⟨false, false, true, true⟩
    ∧ { Migration.initial with walk := some ⟨.dark, 2047, 0⟩ }.walk.map Walk.kind = some .dark := by decide

/-- The part with a SHIFT from slot 1 to slot 0 at handle 0. -/
def shifting (moved : Nat) (s : State) : State :=
  { s with migration := { s.migration with
    shift := some ⟨1, 0, moved⟩, draining := some 1, walk := some ⟨.shift, 2047, 0⟩ } }

theorem witness_LostSlotsJoin :
    (∀ x, base.migration.shift = some x → x.src ≠ 2 ∧ x.dst ≠ 2)
    ∧ (shifting 3 base).migration.shift = some ⟨1, 0, 3⟩ := ⟨by intro x h; simp [base, State.reset, Migration.initial] at h, rfl⟩

/-- Sixty-four home entries. -/
def homes : List (Nat × List LinkId) := (List.range 64).map (fun k => (k, [0]))

theorem witness_RoutesServed :
    Meets (.setRoute .default [3, 2, 1, 0]) (having 0 aParked base) (fun s => 0 < s.migration.parkedTotal)
    ∧ Meets (.setRoute (.home 999999) [0]) { base with routes := ⟨homes, [0]⟩ }
      (fun s => s.routes.homes.find? (fun e => e.1 = 999999) = none ∧ 64 ≤ s.routes.homes.length)
    ∧ Meets (.setRoute (.home 63) [3]) { base with routes := ⟨homes, [0]⟩ }
      (fun s => s.routes.homes.find? (fun e => e.1 = 63) ≠ none)
    ∧ Meets (.setRoute (.home 0) [3]) { base with routes := ⟨homes.drop 1, [0]⟩ }
      (fun s => s.routes.homes.length < 64)
    ∧ Meets (.clearRoute .default) base (fun _ => True)
    ∧ Meets (.clearRoute (.home 0)) base (fun s => s.routes.homes.find? (fun e => e.1 = 0) = none)
    ∧ Meets (.clearRoute (.home 0)) { base with routes := ⟨homes, [0]⟩ }
      (fun s => s.routes.homes.find? (fun e => e.1 = 0) ≠ none)
    ∧ Meets (.readRoute .default) base (fun _ => True)
    ∧ Meets (.readRoute (.home 63)) { base with routes := ⟨homes, [0]⟩ }
      (fun s => (s.routes.homes.find? (fun e => e.1 = 63)).map (·.2) = some [0])
    ∧ Meets (.readRoute (.home 999999)) base
      (fun s => (s.routes.homes.find? (fun e => e.1 = 999999)).map (·.2) = none) := by
  and_intros <;> exact meets (by decide) (by decide) (by decide)

theorem witness_ShiftServed :
    Meets (.shift 1 0) (shifting 3 (linked aCarry)) (fun s => s.migration.shift ≠ none)
    ∧ Meets (.shift 1 0) (linked aTrack) (fun s => s.migration.shift = none ∧ (s.link 0).state ≠ .carry)
    ∧ Meets (.shift 1 0) (linked aCarry base)
      (fun s => s.migration.shift = none ∧ (s.link 0).state = .carry ∧ s.eligible 0 = false)
    ∧ Meets (.shift 1 0) (losing ⟨false, true, false, false⟩ (linked aCarry))
      (fun s => s.migration.shift = none ∧ (s.link 0).state = .carry ∧ s.eligible 0 = true ∧ s.isLost 1 = true)
    ∧ Meets (.shift 1 0) (linked aCarry)
      (fun s => s.migration.shift = none ∧ (s.link 0).state = .carry ∧ s.eligible 0 = true ∧ s.isLost 1 = false)
    ∧ Meets .abortShift base (fun s => s.migration.shift = none)
    ∧ Meets .abortShift (shifting 2048 base) (fun s => s.migration.shift = some ⟨1, 0, 2048⟩) := by
  and_intros <;> exact meets (by decide) (by decide) (by decide)

/-- The granted step of a walk at a handle that holds `c`, with slot 0 linked by `l` and slot 2 lost. -/
def walking (w : Walk) (c : Context) (l : LinkSlot) : State :=
  let s := having w.cursor c (linked l);
  { s with
    arbiter := .granted (.walk w.kind)
    migration := { s.migration with
      walk := some w, lost := ⟨false, false, true, false⟩, shift := some ⟨1, 0, 2⟩, draining := some 1 } }

abbrev WalkMeets (w : Walk) (c : Context) (l : LinkSlot) (P : State → Context → Prop) : Prop :=
  let s := walking w c l;
  s.migration.walk = some w ∧ s.arbiter = .granted (.walk w.kind) ∧ P s (s.ctx w.cursor)

theorem witness_WalkStepsTaken :
    WalkMeets ⟨.failover, 2047, 0⟩ aProbation aCarry (fun _ c => c.state ≠ .idle ∧ c.state ≠ .carrying)
    ∧ WalkMeets ⟨.failover, 2047, 0⟩ anIdle aCarry
      (fun s c => c.state = .idle ∧ c.route = some 0 ∧ s.isLost 0 = false)
    ∧ WalkMeets ⟨.failover, 699, 700⟩ { anIdle with route := some 2 } aCarry
      (fun s c => c.state = .idle ∧ c.route = some 2 ∧ s.isLost 2 = true ∧ s.selectRoute c.home = some 0)
    ∧ WalkMeets ⟨.failover, 2047, 0⟩ { aCarrying with route := some 2 } aTrack
      (fun s c => c.state = .carrying ∧ c.route = some 2 ∧ s.isLost 2 = true ∧ s.selectRoute c.home = none)
    ∧ WalkMeets ⟨.unpark, 2047, 0⟩ aParked aTrack (fun s c => c.state = .parked ∧ s.selectRoute c.home = none)
    ∧ WalkMeets ⟨.unpark, 2047, 0⟩ { aParked with dataOpen := false } aCarry
      (fun s c => c.state = .parked ∧ s.selectRoute c.home = some 0 ∧ c.voiceOpen = false ∧ c.dataOpen = false)
    ∧ WalkMeets ⟨.unpark, 2047, 0⟩ aParked aCarry
      (fun s c => c.state = .parked ∧ s.selectRoute c.home = some 0 ∧ c.dataOpen = true)
    ∧ WalkMeets ⟨.shift, 2047, 0⟩ anIdle aCarry
      (fun s c => s.migration.shift = some ⟨1, 0, 2⟩ ∧ c.route ≠ some 1)
    ∧ WalkMeets ⟨.shift, 2047, 0⟩ { anIdle with route := some 1 } aCarry
      (fun s c => s.migration.shift = some ⟨1, 0, 2⟩ ∧ c.state = .idle ∧ c.route = some 1)
    ∧ WalkMeets ⟨.dark, 2047, 0⟩ anIdle aCarry (fun _ c => c.state ≠ .carrying ∧ c.state ≠ .parked)
    ∧ WalkMeets ⟨.dark, 2047, 0⟩ aCarrying aCarry (fun _ c => c.state = .carrying)
    ∧ WalkMeets ⟨.dark, 0, 0⟩ aParked aCarry (fun _ c => c.state = .parked) := by
  and_intros <;> decide

theorem witness_EventRequestsServed :
    Meets .readEvents base (fun _ => True) ∧ Meets (.setEventMask 0x1FFFF) base (fun _ => True)
    ∧ Meets (.ackEvents 0x1FFFF true) { base with events := { base.events with pendingSet := 0x1FFFF } } (fun _ => True)
    ∧ { base with events := { base.events with quiet := some 1 } }.events.quiet ≠ none := by
  and_intros <;> first | exact meets (by decide) (by decide) (by decide) | decide

theorem witness_LimitsStartAndStatus :
    Meets (.setLimits 4 86401 601 0 4) base (fun _ => True) ∧ Meets (.setLimits 5 86400 600 2000 3) base (fun _ => True)
    ∧ Meets .start base (fun s => s.runState = .running)
    ∧ (let s := queued .master 7 1 (say .start) State.reset;
      s.Serves 1 (say .start) .start ∧ s.runState = .configuring)
    ∧ Meets .readStatus zoned (fun _ => True) := by
  and_intros <;> first | exact meets (by decide) (by decide) (by decide) | decide

theorem witness_VoyageCleared :
    Meets .clearVoyage { having 0 aLinger (having 1 anIdle base) with coverage := ⟨.darkening, .dark⟩ }
      (fun s => contextsWf s.store.contexts = true ∧ s.coverage.mode = .darkening) :=
  meets (by decide) (by decide) (by decide)

/-- A part in service: zone 41 is LIVE, slot 0 carries, and handle 0 is IDLE on it. -/
def voyage : State := having 0 anIdle (linked aCarry)

theorem voyage_ctx (h : Handle) : voyage.ctx h = if h = 0 then anIdle else Context.free :=
  (lookupContext_replace 0 h anIdle []).trans rfl

theorem voyage_idle : voyage.ctx 0 = anIdle := voyage_ctx 0

theorem voyage_free {h : Handle} (other : h ≠ 0) : voyage.ctx h = Context.free := by rw [voyage_ctx, if_neg other]

theorem voyage_store : StoreInv voyage where
  table := by decide
  contexts := by
    intro h
    by_cases e : h = 0
    · rw [e]; decide
    · rw [voyage_free e]; decide
  index := by
    intro i h
    have listed : voyage.store.index = [(5, 0)] := by decide
    rw [listed, voyage_ctx]
    by_cases e : h = 0
    · subst e
      simp only [List.mem_singleton, Prod.mk.injEq, and_true, if_true]
      exact ⟨fun e => ⟨rfl, by rw [e]; rfl⟩, fun e => (Option.some.inj e.2).symm⟩
    · simp [e, Context.free, CtxState.indexed]
  indexOnce := by decide
  probation := by
    intro h
    have queue : voyage.store.probation = [] := by decide
    rw [voyage_ctx, queue]
    by_cases e : h = 0 <;> simp [e, Context.free, anIdle]
  probationOnce := by decide
  settlement := by
    intro h
    have queue : voyage.store.settlement = [] := by decide
    rw [voyage_ctx, queue]
    by_cases e : h = 0 <;> simp [e, Context.free, anIdle]
  settlementOnce := by decide
  free := by decide +kernel
  routes := by decide +kernel
  parked := by decide +kernel

theorem witness_StoreStaysConsistent : StoreInv voyage ∧ ∃ t, step voyage = .next t := ⟨voyage_store, _, rfl⟩

theorem witness_BankAndCoverageStayBounded : BankInv voyage.bank ∧ CoverageInv voyage ∧ ∃ t, step voyage = .next t :=
  ⟨zoned_bank, ⟨by decide, by decide⟩, _, rfl⟩

theorem witness_LinksStayInOrder : BankInv voyage.bank ∧ LinkInv voyage ∧ ∃ t, step voyage = .next t :=
  ⟨zoned_bank, by unfold LinkInv; decide, _, rfl⟩

theorem voyage_routes : RouteInv voyage where
  routed := by
    intro h i routed onto
    by_cases e : h = 0
    · rw [e, voyage_idle] at onto
      exact .inl ((Option.some.inj onto) ▸ by decide)
    · rw [voyage_free e] at onto
      exact absurd onto (by simp [Context.free])
  carry := by decide
  walk := by decide
  passed := by intro w h; exact absurd h (by simp [show voyage.migration.walk = none from rfl])
  suspended := by intro w h; exact absurd h (by simp [show voyage.migration.suspended = none from rfl])
  shift := by intro r h; exact absurd h (by simp [show voyage.migration.shift = none from rfl])

theorem witness_RoutesStayCarried : RouteInv voyage ∧ ∃ t, step voyage = .next t := ⟨voyage_routes, _, rfl⟩

theorem voyage_dark : DarkInv voyage where
  place := by decide
  behind := by
    intro w h
    rcases h with h | h <;> exact absurd h (by
      simp [show voyage.migration.walk = none from rfl, show voyage.migration.suspended = none from rfl])
  dark := by intro h; exact absurd h (by decide)
  suspended := by intro w h; exact absurd h (by simp [show voyage.migration.suspended = none from rfl])

theorem witness_DarkStaysDark : StoreInv voyage ∧ DarkInv voyage ∧ ∃ t, step voyage = .next t :=
  ⟨voyage_store, voyage_dark, _, rfl⟩

theorem voyage_arbiter : ArbiterInv voyage where
  held := by decide
  granted := by intro c h; exact absurd h (by simp [show voyage.arbiter = .idle from rfl])
  idle := by
    intro _ c
    rcases c with _ | _ | k | _
    · rfl
    · rfl
    · cases k <;> rfl
    · rfl
  engineIdle := by decide
  engineHolds := by decide
  grantServes := by intro h; exact absurd h (by simp [show voyage.arbiter = .idle from rfl])
  engineServes := by intro r m h; exact absurd h (by simp [show voyage.port.engine = .idle from rfl])

theorem witness_GrantStaysWithContender : ArbiterInv voyage ∧ ∃ t, step voyage = .next t := ⟨voyage_arbiter, _, rfl⟩

theorem voyage_events : EventInv voyage where
  active := by intro h; exact absurd h (by simp [show voyage.events.attention = false from rfl])
  inactive := by intro h; exact absurd h.2 (by decide)
  attachWaiting := by
    rw [show voyage.store.probation = [] from by decide]
    exact ⟨fun h => absurd h (by decide), fun ⟨_, h, _⟩ => absurd h List.not_mem_nil⟩
  settleWaiting := by decide
  profileMissing := by decide
  backhaulLost := by intro h; exact absurd h (by decide)

theorem witness_EventsStayInStep :
    StoreInv voyage ∧ BankInv voyage.bank ∧ EventInv voyage ∧ ∃ t, step voyage = .next t :=
  ⟨voyage_store, zoned_bank, voyage_events, _, rfl⟩

end Sys2Proof.Tests
end

section
/-! SUPPORT. What the shared operations and the rules of the request kinds leave as it is: the Context Store with the
parked total, and the arbiter, the hold, the port and the run state. One lemma for each operation. -/

namespace Sys2Proof.Machine

/-- The Context Store and the parked total stay as they are: everything that `StoreInv` reads. -/
structure State.KeepsStore (s t : State) : Prop where
  store : t.store = s.store
  parked : t.migration.parkedTotal = s.migration.parkedTotal

/-- The arbiter, the hold, the port and the run state stay as they are: with the walk in progress and the pass state,
everything that `ArbiterInv` reads. -/
structure State.KeepsControl (s t : State) : Prop where
  arbiter : t.arbiter = s.arbiter
  hold : t.hold = s.hold
  port : t.port = s.port
  runState : t.runState = s.runState

/-- A change beside the Context Store and beside the arbiter, the hold and the port. -/
structure State.Beside (s t : State) : Prop where
  keepsStore : s.KeepsStore t
  keepsControl : s.KeepsControl t

namespace State

theorem KeepsStore.refl (s : State) : s.KeepsStore s := ⟨rfl, rfl⟩

theorem KeepsStore.trans {s t u : State} (st : s.KeepsStore t) (tu : t.KeepsStore u) : s.KeepsStore u :=
  ⟨tu.store.trans st.store, tu.parked.trans st.parked⟩

theorem KeepsStore.ctx {s t : State} (st : s.KeepsStore t) (h : Handle) : t.ctx h = s.ctx h := by
  simp only [State.ctx, st.store]

theorem KeepsControl.refl (s : State) : s.KeepsControl s := ⟨rfl, rfl, rfl, rfl⟩

theorem KeepsControl.trans {s t u : State} (st : s.KeepsControl t) (tu : t.KeepsControl u) : s.KeepsControl u :=
  ⟨tu.arbiter.trans st.arbiter, tu.hold.trans st.hold, tu.port.trans st.port, tu.runState.trans st.runState⟩

theorem Beside.refl (s : State) : s.Beside s := ⟨.refl s, .refl s⟩

theorem Beside.trans {s t u : State} (st : s.Beside t) (tu : t.Beside u) : s.Beside u :=
  ⟨st.keepsStore.trans tu.keepsStore, st.keepsControl.trans tu.keepsControl⟩

/-- A change of one kind made for each member of a list stays beside. -/
theorem Beside.foldl {α : Type} {f : State → α → State} (each : ∀ (t : State) (a : α), t.Beside (f t a))
    (list : List α) (s : State) : s.Beside (list.foldl f s) := by
  induction list generalizing s with
  | nil => exact .refl s
  | cons a rest ih => exact (each s a).trans (ih _)

end State

/-! ## Walks and orders -/

@[simp] theorem Migration.next_parkedTotal (m : Migration) (held : Bool) :
    (m.next held).parkedTotal = m.parkedTotal := by
  unfold Migration.next Migration.begin
  repeat' split
  all_goals rfl

@[simp] theorem Migration.order_parkedTotal (m : Migration) (held : Bool) (k : WalkKind) :
    (m.order held k).parkedTotal = m.parkedTotal := by
  unfold Migration.order Migration.begin
  repeat' split
  all_goals rfl

@[simp] theorem Migration.withdraw_parkedTotal (m : Migration) (held : Bool) (k : WalkKind) :
    (m.withdraw held k).parkedTotal = m.parkedTotal := by
  unfold Migration.withdraw
  dsimp only
  repeat' split
  · rw [Migration.next_parkedTotal]
  · rfl
  · rfl

namespace State

theorem raise_beside (s : State) (e : Event) (d : Details) : s.Beside (s.raise e d) :=
  ⟨⟨rfl, rfl⟩, ⟨rfl, rfl, rfl, rfl⟩⟩

theorem order_beside (s : State) (k : WalkKind) : s.Beside (s.order k) := ⟨⟨rfl, by simp⟩, ⟨rfl, rfl, rfl, rfl⟩⟩

theorem nextWalk_beside (s : State) : s.Beside s.nextWalk := ⟨⟨rfl, by simp⟩, ⟨rfl, rfl, rfl, rfl⟩⟩

theorem cancelDark_beside (s : State) : s.Beside s.cancelDark := ⟨⟨rfl, by simp⟩, ⟨rfl, rfl, rfl, rfl⟩⟩

theorem orderUnpark_beside (s : State) : s.Beside s.orderUnpark := by
  unfold State.orderUnpark
  split
  · exact s.order_beside _
  · exact .refl s

theorem dropShift_beside (s : State) : s.Beside s.dropShift := by
  unfold State.dropShift
  split
  · exact .refl s
  · exact ⟨⟨rfl, by simp [State.raiseShiftAborted]⟩, ⟨rfl, rfl, rfl, rfl⟩⟩

theorem joinLost_beside (s : State) (i : LinkId) : s.Beside (s.joinLost i) := by
  have marked : s.Beside
      ({ s with migration := { s.migration with lost := s.migration.lost.set i true } }.order .failover) :=
    ⟨⟨rfl, by simp⟩, ⟨rfl, rfl, rfl, rfl⟩⟩
  unfold State.joinLost
  dsimp only
  split
  · exact marked.trans (dropShift_beside _)
  · exact marked

/-! ## Link slots -/

theorem setLink_beside (s : State) (i : LinkId) (l : LinkSlot) : s.Beside (s.setLink i l) :=
  ⟨⟨rfl, rfl⟩, ⟨rfl, rfl, rfl, rfl⟩⟩

theorem demote_beside (s : State) (i : LinkId) : s.Beside (s.demote i) :=
  (s.setLink_beside i _).trans (joinLost_beside _ i)

theorem zoneChange_beside (s : State) (i : LinkId) : s.Beside (s.zoneChange i) := by
  have rescan (l : LinkSlot) : s.Beside ((s.setLink i l).raiseLinkLost i) :=
    (s.setLink_beside i l).trans (raise_beside _ _ _)
  unfold State.zoneChange
  dsimp only
  split
  · exact .refl s
  · split
    · exact s.setLink_beside i _
    · exact .refl s
  · split
    · split
      · split
        · exact s.setLink_beside i _
        · exact rescan _
      · exact rescan _
    · exact .refl s
  · split
    · exact .refl s
    · exact (s.demote_beside i).trans (raise_beside _ _ _)

theorem configureSlot_beside (s : State) (i : LinkId) (new : LinkSlot) : s.Beside (s.configureSlot i new) := by
  have set := s.setLink_beside i new
  have again (l : LinkSlot) : s.Beside ((s.setLink i new).setLink i l) := set.trans (setLink_beside _ i l)
  have left (l : LinkSlot) : s.Beside (((s.setLink i new).setLink i l).joinLost i) :=
    (again l).trans (joinLost_beside _ i)
  unfold State.configureSlot
  dsimp only
  split
  · split
    · exact set
    · exact again _
  · repeat' split
    · exact again _
    · exact again _
    · exact set
  · repeat' split
    · exact again _
    · exact again _
    · exact set
  · repeat' split
    · exact left _
    · exact left _
    · exact set

theorem probeWeak_beside (s : State) (i : LinkId) (l : LinkSlot) : s.Beside (s.probeWeak i l) := by
  unfold State.probeWeak
  dsimp only
  split
  · exact ((s.setLink_beside i _).trans (demote_beside _ i)).trans (raise_beside _ _ _)
  · exact s.setLink_beside i _

theorem probe_beside (s : State) (i : LinkId) (success : Bool) (quality operator : Nat) :
    s.Beside (s.probe i success quality operator) := by
  unfold State.probe
  split
  · exact .refl s
  · unfold State.probeScan
    repeat' split
    · exact .refl s
    · exact (s.setLink_beside i _).trans (raise_beside _ _ _)
    · exact .refl s
    · exact s.setLink_beside i _
  · unfold State.probeTrack
    dsimp only
    split
    · exact s.setLink_beside i _
    · exact .refl s
  · unfold State.probeCarry
    dsimp only
    repeat' split
    · exact s.setLink_beside i _
    · exact s.probeWeak_beside i _
    · exact s.probeWeak_beside i _

theorem startDwell_beside (s : State) (i : LinkId) : s.Beside (s.startDwell i) := by
  unfold State.startDwell
  dsimp only
  split
  · exact s.setLink_beside i _
  · exact .refl s

/-! ## Coverage and profiles -/

theorem setMode_beside (s : State) (mode : Mode) : s.Beside (s.setMode mode) := ⟨⟨rfl, rfl⟩, ⟨rfl, rfl, rfl, rfl⟩⟩

theorem recompute_beside (s : State) : s.Beside s.recompute.1 := by
  unfold State.recompute
  split
  case h_1 | h_5 | h_9 | h_12 => exact .refl s
  case h_3 | h_6 => exact (s.setMode_beside _).trans (order_beside _ _)
  case h_7 | h_8 => exact s.cancelDark_beside.trans (setMode_beside _ _)
  all_goals exact s.setMode_beside _

theorem setSlot_beside (s : State) (i : ProfileId) (p : ProfileSlot) : s.Beside (s.setSlot i p) :=
  ⟨⟨rfl, rfl⟩, ⟨rfl, rfl, rfl, rfl⟩⟩

theorem setRole_beside (s : State) (i : ProfileId) (role : Role) : s.Beside (s.setRole i role) := s.setSlot_beside i _

theorem freeSlot_beside (s : State) (i : ProfileId) : s.Beside (s.freeSlot i) := s.setSlot_beside i _

theorem setGrace_beside (s : State) (d : Option Nat) : s.Beside (s.setGrace d) := ⟨⟨rfl, rfl⟩, ⟨rfl, rfl, rfl, rfl⟩⟩

theorem expireGrace_beside (s : State) : s.Beside s.expireGrace := by
  unfold State.expireGrace
  split
  · exact ((s.freeSlot_beside _).trans (setGrace_beside _ _)).trans (raise_beside _ _ _)
  · exact .refl s

theorem handOver_beside (s : State) : s.Beside s.handOver :=
  s.recompute_beside.trans (Beside.foldl zoneChange_beside _ _)

theorem exchangeRoles_beside (s : State) (i : ProfileId) : s.Beside (s.exchangeRoles i) := by
  have exchanged (t : State) (st : s.Beside t) (d : Option Nat) (due : Prop) [Decidable due] :
      let u := ((t.setRole s.liveSlot .grace).setRole i .live).setGrace d
      s.Beside (if due then u.expireGrace else u) := by
    have base := ((st.trans (t.setRole_beside s.liveSlot .grace)).trans (setRole_beside _ i .live)).trans
      (setGrace_beside _ d)
    dsimp only
    split
    · exact base.trans (expireGrace_beside _)
    · exact base
  unfold State.exchangeRoles
  cases s.slotIn .grace with
  | none => exact exchanged s (.refl s) _ _
  | some g =>
    by_cases hg : g = i
    · simp only [hg, if_true]
      exact exchanged s (.refl s) _ _
    · simp only [hg, if_false]
      exact exchanged _ (s.freeSlot_beside g) _ _

theorem promote_beside (s : State) (i : ProfileId) : s.Beside (s.promote i) :=
  (s.exchangeRoles_beside i).trans (handOver_beside _)

theorem stage_beside (s : State) (i : ProfileId) : s.Beside (s.stage i) := by
  have freed := Beside.foldl (f := State.freeSlot) (State.freeSlot_beside)
    (s.stagingFrees (s.bank.slots.get i).zone) s
  unfold State.stage
  dsimp only
  split
  · exact (freed.trans (setGrace_beside _ _)).trans (setRole_beside _ _ _)
  · exact freed.trans (setRole_beside _ _ _)

theorem enterZone_beside (s : State) (zone : Nat) : s.Beside (s.enterZone zone) := by
  have entered : s.Beside { s with bank := { s.bank with presentZone := zone } } :=
    ⟨⟨rfl, rfl⟩, ⟨rfl, rfl, rfl, rfl⟩⟩
  unfold State.enterZone
  dsimp only
  split
  · exact entered
  · exact entered.trans (raise_beside _ _ _)
  · exact entered.trans (promote_beside _ _)
  · exact entered.trans (promote_beside _ _)
  · exact entered
  · exact entered

end State

end Sys2Proof.Machine
end

section
/-! SUPPORT. What the end of an event and the end of a service leave as they are, and the rules of the request kinds
that touch no context (R19). -/

namespace Sys2Proof.Machine

namespace State

/-! ## The ends -/

theorem conclude_keepsStore (s : State) : s.KeepsStore s.conclude :=
  ⟨by rw [s.conclude_frame], by rw [s.conclude_frame]⟩

/-- A store kept up to the end of an event is kept behind it. -/
theorem KeepsStore.concluded {s t : State} (st : s.KeepsStore t) : s.KeepsStore t.conclude :=
  st.trans t.conclude_keepsStore

@[simp] theorem conclude_hold (s : State) : s.conclude.hold = s.hold := by rw [s.conclude_frame]

theorem endHold_keepsStore (s : State) : s.KeepsStore s.endHold := by
  rw [s.endHold_eq]
  refine ⟨rfl, ?_⟩
  dsimp only
  split
  · exact Migration.next_parkedTotal _ _
  · rfl

theorem revokeHold_keepsStore (s : State) : s.KeepsStore s.revokeHold :=
  s.endHold_keepsStore.trans (raise_beside _ _ _).keepsStore

theorem takeDueExpiry_keepsStore (s : State) : s.KeepsStore s.takeDueExpiry := by
  unfold State.takeDueExpiry
  split
  · exact s.revokeHold_keepsStore
  · exact .refl s

theorem grantAtOnce_keepsStore (s : State) : s.KeepsStore s.grantAtOnce :=
  ⟨by rw [s.grantAtOnce_frame], by rw [s.grantAtOnce_frame]⟩

theorem releaseEngine_keepsStore (s : State) (r : RequesterId) : s.KeepsStore (s.releaseEngine r) := by
  unfold State.releaseEngine
  dsimp only
  split <;> exact ⟨rfl, rfl⟩

/-- The end of a service leaves the store as its rule left it. -/
theorem finish_keepsStore (s : State) (r : RequesterId) (m : Message) (reply : Reply) :
    s.KeepsStore (s.finish r m reply) := by
  have sent (a : Answer) : s.KeepsStore (s.grantAtOnce.send a) := s.grantAtOnce_keepsStore.trans ⟨rfl, rfl⟩
  exact (((sent _).trans (releaseEngine_keepsStore _ r)).trans (takeDueExpiry_keepsStore _)).trans
    (conclude_keepsStore _)

theorem answerHold_keepsStore (s : State) : s.KeepsStore s.answerHold := by
  unfold State.answerHold
  repeat' split
  · exact s.finish_keepsStore _ _ _
  all_goals exact s.conclude_keepsStore

theorem arrive_keepsStore (s : State) (r : RequesterId) (m : Message) : s.KeepsStore (s.arrive r m) := by
  unfold State.arrive
  dsimp only
  repeat' split
  all_goals exact ⟨rfl, rfl⟩

end State

/-! ## The rules beside the store -/

section Rules

variable (q : Option Request) (b : List Byte) (s : State)

theorem setCeilingRule_beside : s.Beside (setCeilingRule q b s).1 := by
  have set (c : Permit) : s.Beside { s with coverage := { s.coverage with ceiling := c } } :=
    ⟨⟨rfl, rfl⟩, ⟨rfl, rfl, rfl, rfl⟩⟩
  unfold setCeilingRule
  repeat' split
  · exact .refl s
  · exact (set _).trans (State.recompute_beside _)
  · exact .refl s

theorem readEventsRule_beside : s.Beside (readEventsRule q b s).1 := by
  unfold readEventsRule
  split <;> exact .refl s

theorem setEventMaskRule_beside : s.Beside (setEventMaskRule q b s).1 := by
  unfold setEventMaskRule
  split
  · exact ⟨⟨rfl, rfl⟩, ⟨rfl, rfl, rfl, rfl⟩⟩
  · exact .refl s

theorem ackEventsRule_beside : s.Beside (ackEventsRule q b s).1 := by
  unfold ackEventsRule
  split
  · exact ⟨⟨rfl, rfl⟩, ⟨rfl, rfl, rfl, rfl⟩⟩
  · exact .refl s

theorem openProfileRule_beside : s.Beside (openProfileRule q b s).1 := by
  unfold openProfileRule
  repeat' split
  · exact .refl s
  · exact s.setSlot_beside _ _
  all_goals exact .refl s

theorem writeProfileHeaderRule_beside : s.Beside (writeProfileHeaderRule q b s).1 := by
  unfold writeProfileHeaderRule
  repeat' split
  · exact .refl s
  · exact s.setSlot_beside _ _
  · exact .refl s

theorem writeTariffRowRule_beside : s.Beside (writeTariffRowRule q b s).1 := by
  unfold writeTariffRowRule
  repeat' split
  · exact .refl s
  · exact .refl s
  · exact s.setSlot_beside _ _
  · exact .refl s

theorem writeCandidatesRule_beside : s.Beside (writeCandidatesRule q b s).1 := by
  unfold writeCandidatesRule
  repeat' split
  · exact .refl s
  · exact s.setSlot_beside _ _
  · exact .refl s

theorem readProfileRule_beside : s.Beside (readProfileRule q b s).1 := by
  unfold readProfileRule
  split <;> exact .refl s

theorem discardProfileRule_beside : s.Beside (discardProfileRule q b s).1 := by
  unfold discardProfileRule
  repeat' split
  · exact s.freeSlot_beside _
  · exact s.freeSlot_beside _
  all_goals exact .refl s

theorem stageProfileRule_beside : s.Beside (stageProfileRule q b s).1 := by
  have staged (promoted : Prop) [Decidable promoted] (i : ProfileId) :
      s.Beside (if promoted then (s.stage i).promote i else s.stage i) := by
    split
    · exact (s.stage_beside i).trans (State.promote_beside _ i)
    · exact s.stage_beside i
  unfold stageProfileRule
  dsimp only
  split
  · split
    · exact .refl s
    · split
      · exact .refl s
      · exact staged _ _
  · exact .refl s

theorem enterZoneRule_beside : s.Beside (enterZoneRule q b s).1 := by
  unfold enterZoneRule
  split
  · exact s.enterZone_beside _
  · exact .refl s

theorem configureLinkRule_beside : s.Beside (configureLinkRule q b s).1 := by
  unfold configureLinkRule
  split
  · exact s.configureSlot_beside _ _
  · exact .refl s

theorem probeResultRule_beside : s.Beside (probeResultRule q b s).1 := by
  unfold probeResultRule
  split
  · split
    · exact .refl s
    · exact s.probe_beside _ _ _ _
  · split <;> exact .refl s

theorem openLinkRule_beside : s.Beside (openLinkRule q b s).1 := by
  have opened (i : LinkId) (l : LinkSlot) (unpark : Bool) :
      s.Beside (if unpark then (s.setLink i l).order .unpark else s.setLink i l) := by
    split
    · exact (s.setLink_beside i l).trans (State.order_beside _ _)
    · exact s.setLink_beside i l
  unfold openLinkRule
  dsimp only
  split
  · split
    · exact .refl s
    · split
      · exact .refl s
      · split
        · exact .refl s
        · exact opened _ _ _
  · exact .refl s

theorem closeLinkRule_beside : s.Beside (closeLinkRule q b s).1 := by
  unfold closeLinkRule
  repeat' split
  · exact .refl s
  · exact s.demote_beside _
  · exact .refl s

theorem setRouteRule_beside : s.Beside (setRouteRule q b s).1 := by
  have routed (t : RouteTable) : s.Beside { s with routes := t } := ⟨⟨rfl, rfl⟩, ⟨rfl, rfl, rfl, rfl⟩⟩
  have set (t : RouteTable) : s.Beside { s with routes := t }.orderUnpark :=
    (routed t).trans (State.orderUnpark_beside _)
  unfold setRouteRule
  dsimp only
  repeat' split
  · exact set _
  · exact .refl s
  · exact set _
  · exact .refl s

theorem clearRouteRule_beside : s.Beside (clearRouteRule q b s).1 := by
  unfold clearRouteRule
  repeat' split
  · exact .refl s
  · exact ⟨⟨rfl, rfl⟩, ⟨rfl, rfl, rfl, rfl⟩⟩
  · exact .refl s

theorem readRouteRule_beside : s.Beside (readRouteRule q b s).1 := by
  unfold readRouteRule
  split <;> exact .refl s

theorem shiftRule_beside : s.Beside (shiftRule q b s).1 := by
  unfold shiftRule
  repeat' split
  case isFalse => exact ⟨⟨rfl, by simp⟩, ⟨rfl, rfl, rfl, rfl⟩⟩
  all_goals exact .refl s

theorem abortShiftRule_beside : s.Beside (abortShiftRule q b s).1 := by
  unfold abortShiftRule
  repeat' split
  · exact .refl s
  · exact s.dropShift_beside
  · exact .refl s

theorem setLimitsRule_beside : s.Beside (setLimitsRule q b s).1 := by
  unfold setLimitsRule
  split
  · exact ⟨⟨rfl, rfl⟩, ⟨rfl, rfl, rfl, rfl⟩⟩
  · exact .refl s

theorem readStatusRule_beside : s.Beside (readStatusRule q b s).1 := by
  unfold readStatusRule
  split <;> exact .refl s

/-- RELEASE_STORE leaves the arbiter to the end of its service; the hold stays or is NOT_HELD. -/
theorem releaseStoreRule_frame : s.KeepsStore (releaseStoreRule q b s).1 ∧
    (releaseStoreRule q b s).1.arbiter = s.arbiter ∧
    ((releaseStoreRule q b s).1.hold = s.hold ∨ (releaseStoreRule q b s).1.hold.state = .notHeld) := by
  unfold releaseStoreRule
  repeat' split
  · exact ⟨s.endHold_keepsStore, by rw [s.endHold_eq], .inr (by rw [s.endHold_eq])⟩
  all_goals exact ⟨.refl s, rfl, .inl rfl⟩

/-- START changes the run state and the links alone. -/
theorem startRule_frame : s.KeepsStore (startRule q b s).1 ∧
    (startRule q b s).1.arbiter = s.arbiter ∧ (startRule q b s).1.hold = s.hold := by
  have started := State.Beside.foldl State.startDwell_beside slotIds { s with runState := .running }
  unfold startRule
  repeat' split
  · exact ⟨.refl s, rfl, rfl⟩
  · obtain ⟨⟨store, parked⟩, ⟨arbiter, hold, -, -⟩⟩ := started
    exact ⟨⟨store, parked⟩, arbiter, hold⟩
  · exact ⟨.refl s, rfl, rfl⟩

theorem disableQueue_keepsStore (r : RequesterId) (queue : List Message) :
    s.KeepsStore (s.disableQueue r queue) ∧ (s.disableQueue r queue).arbiter = s.arbiter ∧
      (s.disableQueue r queue).hold = s.hold := by
  unfold State.disableQueue
  induction queue generalizing s with
  | nil => exact ⟨.refl s, rfl, rfl⟩
  | cons m rest ih =>
    obtain ⟨store, arbiter, hold⟩ := ih (s.send ⟨r, m.kind, m.tag, .disabled, []⟩)
    exact ⟨⟨store.store, store.parked⟩, arbiter, hold⟩

/-- CONFIGURE_REQUESTER changes the port alone. -/
theorem configureRequesterRule_frame : s.KeepsStore (configureRequesterRule q b s).1 ∧
    (configureRequesterRule q b s).1.arbiter = s.arbiter ∧ (configureRequesterRule q b s).1.hold = s.hold := by
  unfold configureRequesterRule
  split
  · obtain ⟨store, arbiter, hold⟩ := disableQueue_keepsStore s _ _
    exact ⟨store.trans ⟨rfl, rfl⟩, arbiter, hold⟩
  · exact ⟨.refl s, rfl, rfl⟩

end Rules

end Sys2Proof.Machine
end

section
/-! SUPPORT. What a command can do, said once for every command: `State.Taken`. -/

namespace Sys2Proof.Machine

/-- The rule of a request kind: what is served behind the checks of R182. HOLD_STORE has none, since its answer waits
for its grant (R21). -/
def Kind.rule : Kind → Option (Option Request → List Byte → State → State × Reply)
  | .attach => some attachRule
  | .lookup => some lookupRule
  | .lookupHandle => some lookupHandleRule
  | .openBearer => some openBearerRule
  | .closeBearer => some closeBearerRule
  | .detach => some detachRule
  | .retire => some retireRule
  | .admitContext => some admitContextRule
  | .refuse => some refuseRule
  | .nextProbation => some nextProbationRule
  | .nextSettlement => some nextSettlementRule
  | .settleContext => some settleContextRule
  | .addAllowance => some addAllowanceRule
  | .removeAllowance => some removeAllowanceRule
  | .setCap => some setCapRule
  | .setPlan => some setPlanRule
  | .reportUsage => some reportUsageRule
  | .holdStore => none
  | .releaseStore => some releaseStoreRule
  | .openProfile => some openProfileRule
  | .writeProfileHeader => some writeProfileHeaderRule
  | .writeTariffRow => some writeTariffRowRule
  | .writeCandidates => some writeCandidatesRule
  | .readProfile => some readProfileRule
  | .discardProfile => some discardProfileRule
  | .stageProfile => some stageProfileRule
  | .enterZone => some enterZoneRule
  | .setCeiling => some setCeilingRule
  | .configureLink => some configureLinkRule
  | .probeResult => some probeResultRule
  | .openLink => some openLinkRule
  | .closeLink => some closeLinkRule
  | .setRoute => some setRouteRule
  | .clearRoute => some clearRouteRule
  | .readRoute => some readRouteRule
  | .shift => some shiftRule
  | .abortShift => some abortShiftRule
  | .configureRequester => some configureRequesterRule
  | .readEvents => some readEventsRule
  | .setEventMask => some setEventMaskRule
  | .ackEvents => some ackEventsRule
  | .setLimits => some setLimitsRule
  | .start => some startRule
  | .readStatus => some readStatusRule
  | .clearVoyage => some clearVoyageRule

/-- A request's command is the service of its rule; ACK_EVENTS may then drive the line inactive (R194). -/
theorem exec_command {k : Kind} {rule : Option Request → List Byte → State → State × Reply} (ruled : k.rule = some rule)
    (s : State) : exec k.command s = .next (s.serve k rule)
      ∨ (k = .ackEvents ∧ exec k.command s = .next (s.serve k rule).lineInactive) := by
  cases k
  case holdStore => cases ruled
  case ackEvents =>
    obtain rfl : ackEventsRule = rule := Option.some.inj ruled
    change Host.Outcome.next (if _ then _ else _) = _ ∨ _ ∧ Host.Outcome.next (if _ then _ else _) = _
    split
    · exact .inr ⟨rfl, rfl⟩
    · exact .inl rfl
  all_goals exact .inl (Option.some.inj ruled ▸ rfl)

/-- Every request kind. -/
def allKinds : List Kind :=
  [.attach, .lookup, .lookupHandle, .openBearer, .closeBearer, .detach, .retire, .admitContext, .refuse,
    .nextProbation, .nextSettlement, .settleContext, .addAllowance, .removeAllowance, .setCap, .setPlan,
    .reportUsage, .holdStore, .releaseStore, .openProfile, .writeProfileHeader, .writeTariffRow, .writeCandidates,
    .readProfile, .discardProfile, .stageProfile, .enterZone, .setCeiling, .configureLink, .probeResult, .openLink,
    .closeLink, .setRoute, .clearRoute, .readRoute, .shift, .abortShift, .configureRequester, .readEvents,
    .setEventMask, .ackEvents, .setLimits, .start, .readStatus, .clearVoyage]

/-- The request kind whose service a command is, where it is one. -/
def requestKind (c : Instr) : Option Kind := allKinds.find? (fun k => k.command = c)

theorem requestKind_some {c : Instr} {k : Kind} (h : requestKind c = some k) : k.command = c := by
  simpa using List.find?_some h

/-! ## Walk steps -/

/-- The command of a granted walk step (R163). -/
def WalkKind.command : WalkKind → Instr
  | .failover => .failoverStep
  | .shift => .shiftStep
  | .unpark => .unparkStep
  | .dark => .darkStep

/-- What a walk does at the handle at its cursor (R128, R165, R168, R170). -/
def WalkKind.work : WalkKind → Handle → State → State
  | .failover => fun h s => s.failoverWork h
  | .shift => fun h s => s.shiftWork h
  | .unpark => fun h s => s.unparkWork h
  | .dark => fun h s => s.darkWork h

/-- The completion of a walk (R129, R167, R168, R170). -/
def WalkKind.complete : WalkKind → State → State
  | .failover => State.failoverComplete
  | .shift => State.shiftComplete
  | .unpark => State.nextWalk
  | .dark => State.darkComplete

/-- A walk step's work, the cursor's advance, and at the end mark the completion (R163). -/
def State.walked (s : State) (w : Walk) : State :=
  let t := w.kind.work w.cursor s
  if w.cursor + 1 = w.endMark then w.kind.complete t
  else { t with migration := { t.migration with walk := some { w with cursor := w.cursor + 1 } } }

theorem exec_walk (k : WalkKind) (s : State) : exec k.command s = .next (s.walkStep k k.work k.complete) := by
  cases k <;> rfl

/-- A walk step is not taken, or it is the granted step of the walk in progress. -/
theorem State.walkStep_cases (s : State) (k : WalkKind) :
    s.walkStep k k.work k.complete = s
    ∨ ∃ w, s.migration.walk = some w ∧ w.kind = k ∧ s.arbiter = .granted (.walk k)
      ∧ s.walkStep k k.work k.complete = { s.walked w with arbiter := .idle }.conclude := by
  unfold State.walkStep
  cases walk : s.migration.walk with
  | none => exact .inl rfl
  | some w =>
    by_cases due : w.kind = k ∧ s.arbiter = .granted (.walk k)
    · obtain ⟨rfl, grant⟩ := due
      exact .inr ⟨w, rfl, rfl, grant, by simp only [grant, and_self, if_true]; rfl⟩
    · exact .inl (by simp only [due, if_false])

/-! ## Commands -/

/-- Everything a command can do to a part. -/
inductive State.Taken (s : State) : Instr → State → Prop where
  /-- Power-on or the RESET line (R195). -/
  | reset {c : Instr} (asserted : Bool) (settle : Nat) (cause : c = .powerOn ∨ c = .resetLine) :
      Taken s c (s.initialized asserted settle)
  /-- The part does not take this step now (notes/assumptions/2.md). -/
  | skipped {c : Instr} : Taken s c s
  /-- The request in service is answered without effect. -/
  | answered {c : Instr} {r : RequesterId} {m : Message} (reply : Reply) (served : s.inService = some (r, m)) :
      Taken s c (s.finish r m reply)
  /-- The request in service passes its checks, and its rule is applied. -/
  | ruled {k : Kind} {rule : Option Request → List Byte → State → State × Reply} {r : RequesterId} {m : Message}
      (ruled : k.rule = some rule) (served : s.inService = some (r, m)) (kind : Kind.ofCode m.kind.toNat = some k)
      (passes : s.portRefusal r m = none) :
      Taken s k.command
        ((rule (k.read m.body) m.body s).1.finish r m (rule (k.read m.body) m.body s).2)
  /-- An ACK_EVENTS ends an attention service (R194). -/
  | lineInactive {t : State} (before : Taken s .ackEvents t) : Taken s .ackEvents t.lineInactive
  /-- HOLD_STORE (R21). -/
  | holdRequested {r : RequesterId} {m : Message} (served : s.inService = some (r, m))
      (free : s.hold.state ≠ .held) :
      Taken s .holdStore { s with hold := { s.hold with state := .requested } }.conclude
  /-- The hold's grant (R21). -/
  | holdGranted (grant : s.arbiter = .granted .hold) (requested : s.hold.state = .requested) :
      Taken s .holdGrant
        { s with
          arbiter := .held
          hold := ⟨.held, some (s.limits.hold * Config.microsPerMs), false⟩ }.answerHold
  /-- The hold timer's expiry during a service (R25). -/
  | holdExpiring (held : s.hold.state = .held) :
      Taken s .holdTimerExpiry { s with hold := { s.hold with timer := some 0, expiryDue := true } }
  /-- The hold timer's expiry between services (R25). -/
  | holdExpired (held : s.hold.state = .held) (between : ∀ r, s.port.engine ≠ .serving r) :
      Taken s .holdTimerExpiry s.revokeHold.conclude
  /-- The period boundary (R11). -/
  | clocked (due : s.runState = .running ∧ s.clock < Config.maxClock) :
      Taken s .periodBoundary { s with clock := s.clock + 1, sweep := s.sweep.boundary }.conclude
  /-- A granted visit of the Expiry Sweep (R12). -/
  | visited (grant : s.arbiter = .granted .sweep) (passing : s.sweep.pass = .passing) :
      Taken s .sweepVisit { s.visit s.sweep.cursor with sweep := s.sweep.advance, arbiter := .idle }.conclude
  /-- A granted walk step (R163). -/
  | walked {w : Walk} (walk : s.migration.walk = some w) (grant : s.arbiter = .granted (.walk w.kind)) :
      Taken s w.kind.command { s.walked w with arbiter := .idle }.conclude
  /-- A message arrives (R178). -/
  | arrived {octets rest : List Byte} {r : RequesterId} {m : Message} (read : readMessage octets = some (r, m, rest))
      (receives : s.receives = true) :
      Taken s (.messageArrival octets) (s.arrive r m).conclude
  /-- The grace deadline is reached (R117). -/
  | graceEnded (due : (s.slotIn .grace).isSome ∧ s.reached s.bank.graceDeadline) :
      Taken s .graceExpiry s.expireGrace.conclude
  /-- A dwell expires (R139). -/
  | dwellEnded {i : LinkId} (due : (s.link i).state = .scan ∧ (s.link i).dwell.isSome) :
      Taken s (.dwellExpiry i) (s.setLink i ((s.link i).advance (s.candidates i))).conclude
  /-- A track monitor expires (R143). -/
  | trackLost {i : LinkId} (due : (s.link i).state = .track ∧ (s.link i).trackMonitor = some 0) :
      Taken s (.trackMonitorExpiry i)
        ((s.setLink i ((s.link i).toScan (s.candidates i) s.runState)).raiseLinkLost i).conclude
  /-- A carry monitor expires (R145). -/
  | carryLapsed {i : LinkId} (due : (s.link i).state = .carry ∧ (s.link i).carryMonitor = some 0) :
      Taken s (.carryMonitorExpiry i) ((s.demote i).raiseLapsed i).conclude
  /-- The quiet timer expires (R194). -/
  | quietEnded (running : s.events.quiet.isSome) :
      Taken s .quietTimerExpiry { s with events := { s.events with quiet := none } }.conclude
  /-- RESET_N is released (R195). -/
  | released (asserted : s.port.resetAsserted = true) :
      Taken s .resetRelease
        { s with port := { s.port with resetAsserted := false, settle := Config.settleMicros } }

namespace State.Taken

variable {s t : State}

/-- The service of a rule. -/
theorem of_serve {k : Kind} {rule : Option Request → List Byte → State → State × Reply}
    (ruled : k.rule = some rule) : s.Taken k.command (s.serve k rule) := by
  obtain ⟨h, -⟩ | ⟨r, m, served, kind, ⟨status, -, h⟩ | ⟨passes, h⟩⟩ := s.serve_cases k rule <;> rw [h]
  · exact .skipped
  · exact .answered _ served
  · exact .ruled ruled served kind passes

theorem of_holdStore (ran : execHoldStore s = .next t) : s.Taken .holdStore t := by
  obtain rfl := Host.Outcome.next.inj ran
  cases served : s.inService with
  | none => exact .skipped
  | some head =>
    obtain ⟨r, m⟩ := head
    dsimp only
    split
    · split
      · exact .answered _ served
      · split
        · exact .answered _ served
        · split
          · exact .answered _ served
          · exact .holdRequested served (by assumption)
    · exact .skipped

/-- A request's command does what its rule does, or what HOLD_STORE does. -/
theorem of_command {k : Kind} (ran : exec k.command s = .next t) : s.Taken k.command t := by
  cases ruled : k.rule with
  | none =>
    cases k
    case holdStore => exact of_holdStore ran
    all_goals cases ruled
  | some rule =>
    obtain h | ⟨rfl, h⟩ := exec_command ruled s <;> obtain rfl := Host.Outcome.next.inj (h.symm.trans ran)
    · exact of_serve ruled
    · exact .lineInactive (of_serve ruled)

theorem of_walk {k : WalkKind} (ran : exec k.command s = .next t) : s.Taken k.command t := by
  obtain rfl := Host.Outcome.next.inj ((exec_walk k s).symm.trans ran)
  obtain h | ⟨w, walk, rfl, grant, h⟩ := s.walkStep_cases k <;> rw [h]
  · exact .skipped
  · exact .walked walk grant

theorem of_unknownRequest (ran : execUnknownRequest s = .next t) : s.Taken .unknownRequest t := by
  obtain rfl := Host.Outcome.next.inj ran
  cases served : s.inService with
  | none => exact .skipped
  | some head =>
    dsimp only
    split
    · exact .skipped
    · exact .answered _ served

theorem of_messageArrival {octets : List Byte} (ran : execMessageArrival octets s = .next t) :
    s.Taken (.messageArrival octets) t := by
  obtain rfl := Host.Outcome.next.inj ran
  split
  · exact .skipped
  · split
    · exact .arrived (by assumption) (by assumption)
    · exact .skipped

theorem of_holdTimerExpiry (ran : execHoldTimerExpiry s = .next t) : s.Taken .holdTimerExpiry t := by
  obtain rfl := Host.Outcome.next.inj ran
  split
  · rename_i running
    cases engine : s.port.engine with
    | serving r => exact .holdExpiring running.1
    | idle => exact .holdExpired running.1 (by simp [engine])
    | awaitingGrant r => exact .holdExpired running.1 (by simp [engine])
  · exact .skipped

end State.Taken

/-- A command that is taken where a condition holds, and changes nothing where it does not. -/
theorem State.Taken.of_ite {s t u : State} {c : Instr} {due : Prop} [Decidable due] (taken : due → s.Taken c u)
    (ran : (Host.Outcome.next (if due then u else s) : Outcome) = .next t) : s.Taken c t := by
  obtain rfl := Host.Outcome.next.inj ran
  split
  · exact taken (by assumption)
  · exact .skipped

/-- What a command can do. -/
theorem exec_taken {c : Instr} {s t : State} (ran : exec c s = .next t) : s.Taken c t := by
  cases kind : requestKind c with
  | some k =>
    obtain rfl := requestKind_some kind
    exact .of_command ran
  | none =>
    cases c
    case powerOn => exact Host.Outcome.next.inj ran ▸ .reset _ _ (.inl rfl)
    case resetLine => exact Host.Outcome.next.inj ran ▸ .reset _ _ (.inr rfl)
    case messageArrival octets => exact .of_messageArrival ran
    case unknownRequest => exact .of_unknownRequest ran
    case holdGrant => exact .of_ite (fun due => .holdGranted due.1 due.2) ran
    case holdTimerExpiry => exact .of_holdTimerExpiry ran
    case periodBoundary => exact .of_ite .clocked ran
    case sweepVisit => exact .of_ite (fun due => .visited due.1 due.2) ran
    case graceExpiry => exact .of_ite .graceEnded ran
    case dwellExpiry i => exact .of_ite .dwellEnded ran
    case trackMonitorExpiry i => exact .of_ite .trackLost ran
    case carryMonitorExpiry i => exact .of_ite .carryLapsed ran
    case failoverStep => exact .of_walk (k := .failover) ran
    case unparkStep => exact .of_walk (k := .unpark) ran
    case shiftStep => exact .of_walk (k := .shift) ran
    case darkStep => exact .of_walk (k := .dark) ran
    case quietTimerExpiry => exact .of_ite .quietEnded ran
    case resetRelease => exact .of_ite .released ran
    all_goals exact absurd kind (by decide)

end Sys2Proof.Machine
end

section
/-! SUPPORT. What keeps a context as R1, R3, R43, R56 and R64 say (`Context.ok`): its account, its bearers and its
fields by state, and each operation on a context. -/

namespace Sys2Proof.Machine

/-- The allowances are at most four, with distinct tags and balances in range (R56). -/
structure AllowancesOk (list : List Allowance) : Prop where
  count : list.length ≤ Config.allowanceCount
  tags : (list.map (·.tag)).Nodup
  balances : ∀ a ∈ list, a.ok = true

/-- The part of `Context.ok` about an account: overrun, cap, allowances and voice record (R1, R56, R64). -/
structure AccountOk (overrun cap : Nat) (list : List Allowance) (record : Option VoiceRecord) : Prop where
  overrun : overrun ≤ cap
  cap : cap ≤ Config.maxCap
  allowances : AllowancesOk list
  voice : ∀ v, record = some v → v.ok = true

/-- The part of `Context.ok` about the bearers of a barred context and the emergency flag (R43, R64). -/
structure BearersOk (voiceEmergency voiceOpen dataOpen barred : Bool) : Prop where
  emergency : voiceEmergency = true → voiceOpen = true
  barred : barred = true → dataOpen = false ∧ (voiceOpen = true → voiceEmergency = true)

/-- A context's account is as its rules say. -/
abbrev Context.AccountOk (c : Context) : Prop := Machine.AccountOk c.overrun c.cap c.allowances c.voice

/-- A context's bearers are as its rules say. -/
abbrev Context.BearersOk (c : Context) : Prop := Machine.BearersOk c.voiceEmergency c.voiceOpen c.dataOpen c.barred

/-- A context is as its rules say: its fields by its state, its account and its bearers. -/
theorem Context.ok_iff (c : Context) : c.ok = true ↔ c.fieldsOk = true ∧ c.AccountOk ∧ c.BearersOk := by
  have emergency : (!c.voiceEmergency || c.voiceOpen) = true ↔ (c.voiceEmergency = true → c.voiceOpen = true) := by
    cases c.voiceEmergency <;> simp
  have barred : (!c.barred || (!c.dataOpen && (!c.voiceOpen || c.voiceEmergency))) = true
      ↔ (c.barred = true → c.dataOpen = false ∧ (c.voiceOpen = true → c.voiceEmergency = true)) := by
    cases c.barred <;> cases c.voiceOpen <;> simp
  unfold Context.ok
  simp only [Bool.and_eq_true, decide_eq_true_eq, List.all_eq_true, emergency, barred]
  constructor
  · rintro ⟨⟨⟨⟨⟨⟨⟨⟨fields, overrun⟩, cap⟩, count⟩, tags⟩, balances⟩, emergency⟩, barred⟩, voice⟩
    exact ⟨fields, ⟨overrun, cap, ⟨count, tags, balances⟩, fun v hv => by simpa [hv] using voice⟩, ⟨emergency, barred⟩⟩
  · rintro ⟨fields, ⟨overrun, cap, ⟨count, tags, balances⟩, voice⟩, ⟨emergency, barred⟩⟩
    refine ⟨⟨⟨⟨⟨⟨⟨⟨fields, overrun⟩, cap⟩, count⟩, tags⟩, balances⟩, emergency⟩, barred⟩, ?_⟩
    cases record : c.voice with
    | none => rfl
    | some v => exact voice v record

theorem Context.fields_of_ok {c : Context} (h : c.ok = true) : c.fieldsOk = true := (c.ok_iff.1 h).1

theorem Context.account_of_ok {c : Context} (h : c.ok = true) : c.AccountOk := (c.ok_iff.1 h).2.1

theorem Context.free_ok : Context.free.ok = true := by decide

namespace Context

/-! ## The fields of R3's table, state by state -/

variable {c : Context}

theorem fieldsOk_idle (h : c.state = .idle) : c.fieldsOk = true ↔
    c.identity.isSome ∧ c.route.isSome ∧ c.deadline.isSome ∧ c.handed = false ∧ c.lingerOpen = false
      ∧ c.voiceOpen = false ∧ c.dataOpen = false := by
  simp [Context.fieldsOk, h, and_assoc]

theorem fieldsOk_carrying (h : c.state = .carrying) : c.fieldsOk = true ↔
    c.identity.isSome ∧ c.route.isSome ∧ c.deadline = none ∧ c.handed = false ∧ c.lingerOpen = false
      ∧ (c.voiceOpen = true ∨ c.dataOpen = true) := by
  simp [Context.fieldsOk, h, and_assoc]

theorem fieldsOk_parked (h : c.state = .parked) : c.fieldsOk = true ↔
    c.identity.isSome ∧ c.route = none ∧ c.deadline.isSome ∧ c.handed = false ∧ c.lingerOpen = false := by
  simp [Context.fieldsOk, h, and_assoc]

theorem fieldsOk_linger (h : c.state = .linger) : c.fieldsOk = true ↔
    c.identity.isSome ∧ c.route = none ∧ c.deadline.isSome = c.lingerOpen ∧ c.handed = false
      ∧ c.voiceOpen = false ∧ c.dataOpen = false := by
  simp [Context.fieldsOk, h, and_assoc]

/-- What a PROBATION context holds that its admission and its hand-out keep or read (R3). -/
theorem fieldsOk_probation (h : c.state = .probation) (fields : c.fieldsOk = true) :
    c.identity.isSome ∧ c.route = none ∧ c.lingerOpen = false ∧ c.voiceOpen = false ∧ c.dataOpen = false
      ∧ c.overrun = 0 := by
  simp only [Context.fieldsOk, h, Bool.and_eq_true, Bool.not_eq_true', Option.isNone_iff_eq_none,
    decide_eq_true_eq] at fields
  simp [fields]

/-- Everything that R3's table reads of a context that has been admitted. -/
def shape (c : Context) : CtxState × Bool × Bool × Bool × Bool × Bool × Bool × Bool :=
  (c.state, c.identity.isSome, c.route.isSome, c.deadline.isSome, c.handed, c.lingerOpen, c.voiceOpen, c.dataOpen)

/-- A context has been admitted, and is not FREE again. -/
abbrev Admitted (c : Context) : Prop := c.state ≠ .free ∧ c.state ≠ .probation

/-- The fields of an admitted context follow its shape. -/
theorem fieldsOk_of_shape {d : Context} (admitted : c.Admitted) (fields : c.fieldsOk = true)
    (same : d.shape = c.shape) : d.fieldsOk = true := by
  simp only [shape, Prod.mk.injEq] at same
  obtain ⟨state, identity, route, deadline, handed, lingerOpen, voiceOpen, dataOpen⟩ := same
  have isNone (α : Type) (o : Option α) : o = none ↔ o.isSome = false := by cases o <;> simp
  cases s : c.state
  case free => exact absurd s admitted.1
  case probation => exact absurd s admitted.2
  case idle =>
    rw [fieldsOk_idle s] at fields
    rwa [fieldsOk_idle (state.trans s), identity, route, deadline, handed, lingerOpen, voiceOpen, dataOpen]
  case carrying =>
    rw [fieldsOk_carrying s, isNone] at fields
    rwa [fieldsOk_carrying (state.trans s), isNone, identity, route, deadline, handed, lingerOpen, voiceOpen, dataOpen]
  case parked =>
    rw [fieldsOk_parked s, isNone] at fields
    rwa [fieldsOk_parked (state.trans s), isNone, identity, route, deadline, handed, lingerOpen]
  case linger =>
    rw [fieldsOk_linger s, isNone] at fields
    rwa [fieldsOk_linger (state.trans s), isNone, identity, route, deadline, handed, lingerOpen, voiceOpen, dataOpen]

/-! ## The lifecycle -/

theorem newContext_ok (i : Identity) (home : Nat) (cell : Fin 32) (d : Nat) : (newContext i home cell d).ok = true := by
  simp [newContext, Context.free, Context.ok, Context.fieldsOk]

@[simp] theorem renew_state (d : Nat) : (c.renew d).state = c.state := by
  unfold Context.renew; split <;> rfl

@[simp] theorem renew_identity (d : Nat) : (c.renew d).identity = c.identity := by
  unfold Context.renew; split <;> rfl

/-- Activity keeps a context as its rules say (R42). -/
theorem renew_ok (h : c.ok = true) (d : Nat) : (c.renew d).ok = true := by
  unfold Context.renew
  split
  · rename_i idle
    rw [Context.ok_iff] at h ⊢
    obtain ⟨fields, account, bearers⟩ := h
    rw [fieldsOk_idle idle] at fields
    exact ⟨by simp [fieldsOk_idle, idle, fields], account, bearers⟩
  · exact h

/-- A cell update (R30). -/
theorem cell_ok (h : c.ok = true) (used : c.state ≠ .free) (cell : Fin 32) : { c with cell := cell }.ok = true := by
  rw [Context.ok_iff] at h ⊢
  obtain ⟨fields, account, bearers⟩ := h
  refine ⟨?_, account, bearers⟩
  by_cases new : c.state = .probation
  · simpa only [Context.fieldsOk, new] using fields
  · exact fieldsOk_of_shape ⟨used, new⟩ fields rfl

/-- A hand-out to the master (R34). -/
theorem handed_ok (h : c.ok = true) (new : c.state = .probation) : { c with handed := true }.ok = true := by
  rw [Context.ok_iff] at h ⊢
  obtain ⟨fields, account, bearers⟩ := h
  exact ⟨by simpa only [Context.fieldsOk, new] using fields, account,
    bearers⟩

/-- An admission (R37). -/
theorem admitted_ok (h : c.ok = true) (new : c.state = .probation) (s : State) (plan : Fin 8) {cap : Nat}
    (carried : cap ≤ Config.maxCap) (policy : Policy) : (s.admitted c plan cap policy).ok = true := by
  rw [Context.ok_iff] at h ⊢
  obtain ⟨fields, account, bearers⟩ := h
  obtain ⟨identity, route, lingerOpen, voiceOpen, dataOpen, overrun⟩ := fieldsOk_probation new fields
  unfold State.admitted
  dsimp only
  split <;>
    refine ⟨?_, ⟨by simp [overrun], carried, account.3, account.4⟩, bearers⟩
  · simp [fieldsOk_idle, identity, lingerOpen, voiceOpen, dataOpen]
  · simp [fieldsOk_parked, identity, route, lingerOpen]

/-- An admitted context holds an identity and is not handed (R3). -/
theorem identity_of_admitted (admitted : c.Admitted) (fields : c.fieldsOk = true) :
    c.identity.isSome ∧ c.handed = false := by
  cases s : c.state
  case free => exact absurd s admitted.1
  case probation => exact absurd s admitted.2
  case idle =>
    rw [fieldsOk_idle s] at fields
    simp [fields]
  case carrying =>
    rw [fieldsOk_carrying s] at fields
    simp [fields]
  case parked =>
    rw [fieldsOk_parked s] at fields
    simp [fields]
  case linger =>
    rw [fieldsOk_linger s] at fields
    simp [fields]

/-- The entry into LINGER (R14, R15, R48). -/
theorem toLinger_ok (h : c.ok = true) (admitted : c.Admitted) (d : Nat) : (c.toLinger d).ok = true := by
  rw [Context.ok_iff] at h ⊢
  obtain ⟨fields, account, -⟩ := h
  obtain ⟨identity, handed⟩ := identity_of_admitted admitted fields
  exact ⟨by simp [Context.toLinger, fieldsOk_linger, identity, handed],
    account, ⟨by simp [Context.toLinger], by simp [Context.toLinger]⟩⟩

/-- An open linger closes (R16). -/
theorem closeLinger_ok (h : c.ok = true) (linger : c.state = .linger) :
    { c with lingerOpen := false, deadline := none }.ok = true := by
  rw [Context.ok_iff] at h ⊢
  obtain ⟨fields, account, bearers⟩ := h
  rw [fieldsOk_linger linger] at fields
  exact ⟨by simp [fieldsOk_linger, linger, fields], account,
    bearers⟩

/-! ## Routes -/

/-- A routed context bound to another slot (R165, R170). -/
theorem route_ok (h : c.ok = true) (routed : c.routed = true) (i : LinkId) : { c with route := some i }.ok = true := by
  rw [Context.ok_iff] at h ⊢
  obtain ⟨fields, account, bearers⟩ := h
  refine ⟨?_, account, bearers⟩
  simp only [Context.routed, Bool.or_eq_true, decide_eq_true_eq] at routed
  obtain idle | carrying := routed
  · rw [fieldsOk_idle idle] at fields
    simp [fieldsOk_idle, idle, fields]
  · rw [fieldsOk_carrying carrying] at fields
    simp [fieldsOk_carrying, carrying, fields]

/-- A routed context parks (R165). -/
theorem park_ok (h : c.ok = true) (admitted : c.Admitted) (unlingering : c.lingerOpen = false) (d : Nat) :
    (c.park d).ok = true := by
  rw [Context.ok_iff] at h ⊢
  obtain ⟨fields, account, bearers⟩ := h
  obtain ⟨identity, handed⟩ := identity_of_admitted admitted fields
  exact ⟨by simp [Context.park, fieldsOk_parked, identity, handed, unlingering],
    account, bearers⟩

/-- A PARKED context is restored (R168). -/
theorem restore_ok (h : c.ok = true) (parked : c.state = .parked) (i : LinkId) (d : Nat) :
    (c.restore i d).ok = true := by
  rw [Context.ok_iff] at h ⊢
  obtain ⟨fields, account, bearers⟩ := h
  rw [fieldsOk_parked parked] at fields
  unfold Context.restore Context.anyBearer
  split
  · rename_i any
    exact ⟨by simpa [fieldsOk_carrying, fields] using any, account,
      bearers⟩
  · rename_i silent
    exact ⟨by simpa [fieldsOk_idle, fields] using silent, account,
      bearers⟩

/-! ## Bearers -/

/-- A bearer opened on an IDLE or CARRYING context, on a barred one only an emergency voice bearer (R44, R45). -/
theorem openBearer_ok (h : c.ok = true) (routed : c.state = .idle ∨ c.state = .carrying) (kind : BearerKind)
    (emergency : Bool) (allowed : ¬(c.barred = true ∧ ¬(kind = .voice ∧ emergency = true))) :
    (c.openBearer kind emergency).ok = true := by
  rw [Context.ok_iff] at h
  obtain ⟨fields, ⟨overrun, cap, allowances, voice⟩, ⟨called, barred⟩⟩ := h
  have carried : c.identity.isSome ∧ c.route.isSome ∧ c.handed = false ∧ c.lingerOpen = false := by
    obtain idle | carrying := routed
    · rw [fieldsOk_idle idle] at fields; simp [fields]
    · rw [fieldsOk_carrying carrying] at fields; simp [fields]
  have undated : c.state = .carrying → c.deadline = none := fun carrying => by
    rw [fieldsOk_carrying carrying] at fields
    simp [fields]
  rw [Context.ok_iff]
  cases kind with
  | voice =>
    have record : ∀ v, some (⟨0, 0, 0, emergency⟩ : VoiceRecord) = some v → v.ok = true := by
      rintro v ⟨⟩; simp [VoiceRecord.ok]
    have bars : c.barred = true → c.dataOpen = false ∧ (true = true → emergency = true) := fun b =>
      ⟨(barred b).1, fun _ => by simpa [b] using allowed⟩
    unfold Context.openBearer
    dsimp only
    split
    · exact ⟨by simp [fieldsOk_carrying, carried], ⟨overrun, cap, allowances, record⟩, ⟨fun _ => rfl, bars⟩⟩
    · have carrying : c.state = .carrying := routed.resolve_left (by assumption)
      exact ⟨by simp [fieldsOk_carrying, carrying, carried, undated], ⟨overrun, cap, allowances, record⟩,
        ⟨fun _ => rfl, bars⟩⟩
  | data =>
    have unbarred : c.barred = true → true = false ∧ (c.voiceOpen = true → c.voiceEmergency = true) := fun b =>
      absurd ⟨b, by simp⟩ allowed
    unfold Context.openBearer
    dsimp only
    split
    · exact ⟨by simp [fieldsOk_carrying, carried], ⟨overrun, cap, allowances, voice⟩, ⟨called, unbarred⟩⟩
    · have carrying : c.state = .carrying := routed.resolve_left (by assumption)
      exact ⟨by simp [fieldsOk_carrying, carrying, carried, undated], ⟨overrun, cap, allowances, voice⟩,
        ⟨called, unbarred⟩⟩

/-- What closing bearers comes to: the flags that are left, and IDLE with the idle deadline where a CARRYING context is
left with no bearer (R46, R47). -/
def closing (c : Context) (voiceOpen emergency dataOpen : Bool) (idleDeadline : Nat) : Context :=
  let left := { c with voiceOpen := voiceOpen, voiceEmergency := emergency, dataOpen := dataOpen }
  if c.state = .carrying ∧ left.anyBearer = false then { left with state := .idle, deadline := some idleDeadline }
  else left

theorem closeBearer_voice (d : Nat) : c.closeBearer .voice d = c.closing false false c.dataOpen d := rfl

theorem closeBearer_data (d : Nat) : c.closeBearer .data d = c.closing c.voiceOpen c.voiceEmergency false d := rfl

theorem closeBearers_eq (keep : Bool) (d : Nat) : c.closeBearers keep d =
    c.closing (keep && c.voiceOpen && c.voiceEmergency) (keep && c.voiceOpen && c.voiceEmergency) false d := by
  simp only [Context.closeBearers, closing, Context.anyBearer, Bool.or_false]

/-- Closing bearers opens none, so it keeps an admitted context as its rules say. -/
theorem closing_ok (admitted : c.Admitted) (fields : c.fieldsOk = true) (account : c.AccountOk)
    {voiceOpen emergency dataOpen : Bool} (d : Nat) (onlyVoice : voiceOpen = true → c.voiceOpen = true)
    (onlyData : dataOpen = true → c.dataOpen = true) (called : emergency = true → voiceOpen = true)
    (barred : c.barred = true → dataOpen = false ∧ (voiceOpen = true → emergency = true)) :
    (c.closing voiceOpen emergency dataOpen d).ok = true := by
  obtain ⟨overrun, cap, allowances, voice⟩ := account
  unfold closing Context.anyBearer
  dsimp only
  split
  · rename_i silent
    obtain ⟨carrying, silent⟩ := silent
    rw [fieldsOk_carrying carrying] at fields
    rw [Bool.or_eq_false_iff] at silent
    rw [Context.ok_iff]
    exact ⟨by simp [fieldsOk_idle, fields, silent], ⟨overrun, cap, allowances, voice⟩, ⟨called, barred⟩⟩
  · rename_i kept
    rw [Context.ok_iff]
    refine ⟨?_, ⟨overrun, cap, allowances, voice⟩, ⟨called, barred⟩⟩
    cases s : c.state
    case free => exact absurd s admitted.1
    case probation => exact absurd s admitted.2
    case carrying =>
      rw [fieldsOk_carrying s] at fields
      have : voiceOpen = true ∨ dataOpen = true := by simpa [s, or_iff_not_imp_left] using kept
      simpa [fieldsOk_carrying, fields] using this
    case parked =>
      rw [fieldsOk_parked s] at fields
      simp [fieldsOk_parked, fields]
    case idle =>
      rw [fieldsOk_idle s] at fields
      simp_all [fieldsOk_idle]
    case linger =>
      rw [fieldsOk_linger s] at fields
      simp_all [fieldsOk_linger]

/-- One bearer closed (R46). -/
theorem closeBearer_ok (h : c.ok = true) (admitted : c.Admitted) (kind : BearerKind) (d : Nat) :
    (c.closeBearer kind d).ok = true := by
  rw [Context.ok_iff] at h
  obtain ⟨fields, account, ⟨called, barred⟩⟩ := h
  cases kind with
  | voice =>
    rw [closeBearer_voice]
    exact closing_ok admitted fields account d (by simp) id (by simp) (fun b => ⟨(barred b).1, by simp⟩)
  | data =>
    rw [closeBearer_data]
    exact closing_ok admitted fields account d id (by simp) called (fun b => ⟨rfl, (barred b).2⟩)

/-- Every bearer closed, or all but an emergency voice bearer (R47, R68). -/
theorem closeBearers_ok (admitted : c.Admitted) (fields : c.fieldsOk = true) (account : c.AccountOk) (keep : Bool)
    (d : Nat) : (c.closeBearers keep d).ok = true := by
  rw [closeBearers_eq]
  refine closing_ok admitted fields account d ?_ (by simp) id (fun _ => ⟨rfl, id⟩)
  simp only [Bool.and_eq_true]
  exact fun kept => kept.1.2

/-- The policy's effect where the cap is met (R68, R69). -/
theorem meetCap_ok (h : c.ok = true) (admitted : c.Admitted) (d : Nat) : (c.meetCap d).ok = true := by
  rw [Context.ok_iff] at h
  obtain ⟨fields, ⟨overrun, cap, allowances, voice⟩, ⟨called, barred⟩⟩ := h
  unfold Context.meetCap
  split
  · exact closeBearers_ok (c := { c with barred := true }) admitted (fieldsOk_of_shape admitted fields rfl)
      ⟨overrun, cap, allowances, voice⟩ true d
  · rw [Context.ok_iff]
    exact ⟨fieldsOk_of_shape admitted fields rfl, ⟨overrun, cap, allowances, voice⟩, ⟨called, barred⟩⟩

/-! ## Terms (R57 to R66) -/

/-- A context whose terms may be changed has been admitted (R59). -/
theorem admitted_of_terms (h : c.termsRefusal = none) : c.Admitted := by
  unfold Context.termsRefusal at h
  split at h <;> simp_all [Admitted]

/-- Another plan (R66). -/
theorem plan_ok (h : c.ok = true) (admitted : c.Admitted) (plan : Fin 8) : { c with plan := plan }.ok = true := by
  rw [Context.ok_iff] at h ⊢
  obtain ⟨fields, ⟨overrun, cap, allowances, voice⟩, ⟨called, barred⟩⟩ := h
  exact ⟨fieldsOk_of_shape admitted fields rfl, ⟨overrun, cap, allowances, voice⟩, ⟨called, barred⟩⟩

/-- Another cap and policy (R65). -/
theorem setCap_ok (h : c.ok = true) (admitted : c.Admitted) {cap : Nat} (carried : cap ≤ Config.maxCap)
    (policy : Policy) : (c.setCap cap policy).ok = true := by
  rw [Context.ok_iff] at h
  obtain ⟨fields, ⟨overrun, before, allowances, voice⟩, ⟨called, barred⟩⟩ := h
  have applied : max cap c.overrun ≤ Config.maxCap := max_le carried (overrun.trans before)
  have covers : c.overrun ≤ max cap c.overrun := le_max_right _ _
  unfold Context.setCap
  dsimp only
  split <;> rw [Context.ok_iff]
  · exact ⟨fieldsOk_of_shape admitted fields rfl, ⟨covers, applied, allowances, voice⟩, ⟨called, by simp⟩⟩
  · exact ⟨fieldsOk_of_shape admitted fields rfl, ⟨covers, applied, allowances, voice⟩, ⟨called, barred⟩⟩

/-- Another allowance list (R61, R63). -/
theorem allowances_ok (h : c.ok = true) (admitted : c.Admitted) {list : List Allowance} (ok : AllowancesOk list) :
    { c with allowances := list }.ok = true := by
  rw [Context.ok_iff] at h ⊢
  obtain ⟨fields, ⟨overrun, cap, -, voice⟩, ⟨called, barred⟩⟩ := h
  exact ⟨fieldsOk_of_shape admitted fields rfl, ⟨overrun, cap, ok, voice⟩, ⟨called, barred⟩⟩

/-- The flags that a UNITS allowance clears (R62). -/
theorem addedFlags_ok (h : c.ok = true) (admitted : c.Admitted) (kind : AllowanceKind) :
    (c.addedFlags kind).ok = true := by
  unfold Context.addedFlags
  split
  · rw [Context.ok_iff] at h ⊢
    obtain ⟨fields, ⟨overrun, cap, allowances, voice⟩, ⟨called, barred⟩⟩ := h
    exact ⟨fieldsOk_of_shape admitted fields rfl, ⟨overrun, cap, allowances, voice⟩, ⟨called, by simp⟩⟩
  · exact h
  · exact h

end Context

/-! ## Allowance lists -/

/-- Two entries of a list with distinct tags that share a tag are one. -/
theorem AllowancesOk.eq_of_tag {list : List Allowance} (ok : AllowancesOk list) {a b : Allowance} (ha : a ∈ list)
    (hb : b ∈ list) (tag : a.tag = b.tag) : a = b := List.inj_on_of_nodup_map ok.tags ha hb tag

/-- A top-up of the entry of its tag and kind (R61). -/
theorem AllowancesOk.topUp {list : List Allowance} (ok : AllowancesOk list) {tag : Byte} {a : Allowance}
    (found : findTag tag list = some a) (amount : Nat) :
    AllowancesOk (topUp tag (min (a.balance + amount) a.kind.maximum) list) := by
  have member : a ∈ list := List.mem_of_find?_eq_some found
  have tagged : a.tag = tag := by simpa using List.find?_some found
  have tags : (Machine.topUp tag (min (a.balance + amount) a.kind.maximum) list).map (·.tag) = list.map (·.tag) := by
    simp only [Machine.topUp, List.map_map]
    refine List.map_congr_left fun x _ => ?_
    simp only [Function.comp_apply]
    split <;> rfl
  refine ⟨by simpa [Machine.topUp] using ok.count, tags ▸ ok.tags, ?_⟩
  intro y hy
  obtain ⟨x, hx, rfl⟩ := List.mem_map.1 hy
  split
  · rename_i same
    obtain rfl := ok.eq_of_tag hx member (same.trans tagged.symm)
    have := ok.balances x hx
    simp only [Allowance.ok, Bool.and_eq_true, decide_eq_true_eq] at this ⊢
    omega
  · exact ok.balances x hx

/-- A new entry at the tail (R61). -/
theorem AllowancesOk.append {list : List Allowance} (ok : AllowancesOk list) {a : Allowance}
    (absent : findTag a.tag list = none) (room : list.length < Config.allowanceCount) (fits : a.ok = true) :
    AllowancesOk (list ++ [a]) := by
  have fresh : ∀ x ∈ list, x.tag ≠ a.tag := by simpa [findTag] using absent
  refine ⟨by simpa using room, ?_, ?_⟩
  · rw [List.map_append, List.nodup_append]
    refine ⟨ok.tags, by simp, ?_⟩
    simpa using fresh
  · intro x hx
    obtain hx | rfl := by simpa using hx
    · exact ok.balances x hx
    · exact fits

/-- An entry withdrawn (R63). -/
theorem AllowancesOk.filter {list : List Allowance} (ok : AllowancesOk list) (p : Allowance → Bool) :
    AllowancesOk (list.filter p) :=
  ⟨(List.length_filter_le _ _).trans ok.count, (ok.tags.sublist (List.filter_sublist.map _)),
    fun a ha => ok.balances a (List.mem_of_mem_filter ha)⟩

/-- A draw leaves no entry at balance 0, and no entry with more than it had (R58). -/
theorem draw_balances (kind : AllowanceKind) (list : List Allowance) (amount : Nat)
    (ok : ∀ a ∈ list, a.ok = true) : ∀ a ∈ (draw kind amount list).allowances, a.ok = true := by
  induction list generalizing amount with
  | nil => simp [draw]
  | cons x rest ih =>
    have first := ok x (by simp)
    have behind (n : Nat) := ih n (fun a ha => ok a (by simp [ha]))
    unfold draw
    split
    · dsimp only
      split
      · exact behind _
      · rename_i left
        rw [List.forall_mem_cons]
        refine ⟨?_, behind _⟩
        simp only [Allowance.ok, Bool.and_eq_true, decide_eq_true_eq] at first ⊢
        omega
    · exact List.forall_mem_cons.2 ⟨first, behind _⟩

theorem AllowancesOk.draw {list : List Allowance} (ok : AllowancesOk list) (kind : AllowanceKind) (amount : Nat) :
    AllowancesOk (draw kind amount list).allowances := by
  have sub := draw_tags kind list amount
  refine ⟨?_, ok.tags.sublist sub, draw_balances kind list amount ok.balances⟩
  simpa using sub.length_le.trans (by simpa using ok.count)

/-! ## A rated report -/

/-- The voice stage keeps the allowance list and the record as R56 and R1 say (R82 to R87). -/
theorem voiceStage_ok (row : TariffRow) {list : List Allowance} (ok : AllowancesOk list) {record : Option VoiceRecord}
    (within : ∀ v, record = some v → v.ok = true) (seconds : Nat) :
    AllowancesOk (voiceStage row list record seconds).allowances ∧
      ∀ v, (voiceStage row list record seconds).record = some v → v.ok = true := by
  unfold voiceStage
  split
  · exact ⟨ok, by simp⟩
  · rename_i v
    have ranges := within v rfl
    split
    · exact ⟨ok, within⟩
    · simp only [VoiceRecord.ok, Bool.and_eq_true, decide_eq_true_eq] at ranges
      have due : billable row (min (v.elapsed + seconds) Config.maxVoice) ≤ Config.maxVoice := min_le_right _ _
      constructor
      · unfold rateVoice
        dsimp only
        split
        · exact ok
        · exact ok.draw _ _
      · rintro u ⟨⟩
        simp only [VoiceRecord.ok, Bool.and_eq_true, decide_eq_true_eq]
        exact ⟨⟨min_le_right _ _, max_le due ranges.1.2⟩, Nat.mod_lt _ (by decide)⟩

/-- A taken report's stages keep a context as its rules say (R74). -/
theorem rate_ok {c : Context} (h : c.ok = true) (admitted : c.Admitted) (row : TariffRow) (volume seconds : Nat) :
    let r := rate row c volume seconds
    { c with
      allowances := r.moneyPart.allowances
      remainder := r.dataPart.remainder
      voice := r.voicePart.record
      overrun := r.moneyPart.overrun }.ok = true := by
  rw [Context.ok_iff] at h ⊢
  obtain ⟨fields, ⟨overrun, cap, allowances, voice⟩, ⟨called, barred⟩⟩ := h
  have data : AllowancesOk (rate row c volume seconds).dataPart.allowances := by
    simp only [rate]
    split
    · exact allowances
    · exact allowances.draw _ _
  have spoken := voiceStage_ok row data voice seconds
  exact ⟨Context.fieldsOk_of_shape admitted fields rfl, ⟨min_le_right _ _, cap, spoken.1.draw _ _, spoken.2⟩,
    ⟨called, barred⟩⟩

/-- A taken report keeps a context as its rules say, behind the activity and the policy too (R67, R75). -/
theorem Rated.apply_ok {c : Context} (h : c.ok = true) (admitted : c.Admitted) (row : TariffRow)
    (volume seconds : Nat) (active : Bool) (d : Nat) : ((rate row c volume seconds).apply c active d).ok = true := by
  have charged := rate_ok h admitted row volume seconds
  unfold Rated.apply
  dsimp only
  cases active with
  | false =>
    simp only [Bool.false_eq_true, if_false]
    split
    · exact Context.meetCap_ok charged admitted d
    · exact charged
  | true =>
    simp only [if_true]
    split
    · exact Context.meetCap_ok (Context.renew_ok charged d)
        (by simpa only [Context.Admitted, Context.renew_state] using admitted) d
    · exact Context.renew_ok charged d

end Sys2Proof.Machine
end

section
/-! SUPPORT. The consistency of the Context Store (`StoreInv`) under the one write of a context, and under everything
that leaves the store as it is. -/

namespace Sys2Proof.Machine

/-! ## Counting over the handles -/

theorem mem_handles (h : Handle) : h ∈ handles := List.mem_finRange h

theorem nodup_handles : handles.Nodup := List.nodup_finRange 2048

/-- Two counts of a list without repeats that differ at one member. -/
theorem countP_update {α : Type} {f g : α → Bool} {a : α} {l : List α} (once : l.Nodup) (member : a ∈ l)
    (same : ∀ b, b ≠ a → f b = g b) : l.countP f + (g a).toNat = l.countP g + (f a).toNat := by
  induction l with
  | nil => simp at member
  | cons x rest ih =>
    obtain ⟨absent, once⟩ := List.nodup_cons.1 once
    have cons (p : α → Bool) : (x :: rest).countP p = rest.countP p + (p x).toNat := by
      cases h : p x <;> simp [h]
    rw [cons, cons]
    obtain rfl | member := List.mem_cons.1 member
    · have rest_eq : rest.countP f = rest.countP g :=
        List.countP_congr fun b hb => by rw [same b (fun e => absent (e ▸ hb))]
      omega
    · have := ih once member
      have hx : f x = g x := same x fun e => absent (e ▸ member)
      rw [hx]
      omega

/-- A count over all handles of a property of contexts moves with the context that is written. -/
theorem countP_handles_write {f g : Handle → Bool} {h : Handle} (same : ∀ k, k ≠ h → g k = f k) :
    handles.countP g = handles.countP f - (if f h = true ∧ g h = false then 1 else 0)
      + (if f h = false ∧ g h = true then 1 else 0) := by
  have := countP_update nodup_handles (mem_handles h) same
  cases hf : f h <;> cases hg : g h <;> simp only [hf, hg, Bool.toNat_true, Bool.toNat_false] at this <;>
    simp <;> omega

/-! ## Frames -/

/-- `StoreInv` reads the store and the parked total alone. -/
theorem StoreInv.of_keeps {s t : State} (inv : StoreInv s) (keeps : s.KeepsStore t) : StoreInv t where
  table := by simpa only [keeps.store] using inv.table
  contexts := by simpa only [keeps.ctx] using inv.contexts
  index := by simpa only [keeps.store, keeps.ctx] using inv.index
  indexOnce := by simpa only [keeps.store] using inv.indexOnce
  probation := by simpa only [keeps.store, keeps.ctx] using inv.probation
  probationOnce := by simpa only [keeps.store] using inv.probationOnce
  settlement := by simpa only [keeps.store, keeps.ctx] using inv.settlement
  settlementOnce := by simpa only [keeps.store] using inv.settlementOnce
  free := by simpa only [keeps.store, keeps.ctx] using inv.free
  routes := by simpa only [keeps.store, keeps.ctx] using inv.routes
  parked := by simpa only [keeps.parked, keeps.ctx] using inv.parked

/-! ## The index and the queues behind a write -/

/-- A queue of the handles for which something holds, followed for one handle. -/
theorem mem_followQueue {was now : Bool} {h : Handle} {queue : List Handle} (member : h ∈ queue ↔ was = true)
    (k : Handle) : k ∈ followQueue was now h queue ↔ if k = h then now = true else k ∈ queue := by
  unfold followQueue
  by_cases e : k = h
  · subst e
    cases was <;> cases now <;> simp_all
  · cases was <;> cases now <;> simp [e]

theorem nodup_followQueue {was now : Bool} {h : Handle} {queue : List Handle} (member : h ∈ queue ↔ was = true)
    (once : queue.Nodup) : (followQueue was now h queue).Nodup := by
  unfold followQueue
  cases was with
  | true => cases now <;> simp [once, once.filter]
  | false =>
    cases now with
    | false => simpa using once
    | true =>
      have absent : h ∉ queue := by simp [member]
      simpa [List.nodup_append, once] using fun a ha (e : a = h) => absent (e ▸ ha)

/-- The Identity Index, followed for one handle (R5). -/
theorem mem_followIndex {old new : Context} {h : Handle} {index : List (Identity × Handle)}
    (member : ∀ i, (i, h) ∈ index ↔ old.state.indexed = true ∧ old.identity = some i)
    (keeps : old.state.indexed = true → new.state.indexed = true → new.identity = old.identity)
    (i : Identity) (k : Handle) : (i, k) ∈ followIndex old new h index ↔
      if k = h then new.state.indexed = true ∧ new.identity = some i else (i, k) ∈ index := by
  unfold followIndex
  by_cases e : k = h
  · subst e
    cases was : old.state.indexed <;> cases now : new.state.indexed <;> simp only [was, now] at member keeps ⊢
    · simp [member]
    · cases identity : new.identity <;> simp [member, eq_comm]
    · simp
    · simp [member, keeps]
  · cases old.state.indexed <;> cases new.state.indexed <;> cases new.identity <;> simp [e]

theorem nodup_followIndex {old new : Context} {h : Handle} {index : List (Identity × Handle)}
    (once : (index.map (·.1)).Nodup)
    (fresh : old.state.indexed = false → new.state.indexed = true → ∀ i, new.identity = some i →
      ∀ e ∈ index, e.1 ≠ i) : ((followIndex old new h index).map (·.1)).Nodup := by
  unfold followIndex
  cases was : old.state.indexed <;> cases now : new.state.indexed
  · simpa using once
  · cases identity : new.identity with
    | none => simpa using once
    | some i =>
      simp only [Bool.false_eq_true, if_false, if_true, List.map_append, List.nodup_append]
      refine ⟨once, by simp, ?_⟩
      simpa using fresh was now i identity
  · exact once.sublist (List.filter_sublist.map _)
  · simpa using once

/-- The route counts, followed for one context (R157). -/
theorem rebind_get (old new : Option LinkId) (counts : Four Nat) (i : LinkId) :
    (rebind old new counts).get i = counts.get i - (if old = some i ∧ new ≠ some i then 1 else 0)
      + (if old ≠ some i ∧ new = some i then 1 else 0) := by
  unfold rebind
  by_cases same : old = new
  · subst same
    by_cases h : old = some i <;> simp [h]
  · cases old with
    | none =>
      cases new with
      | none => exact absurd rfl same
      | some b => by_cases hb : i = b <;> simp [Four.get_set, hb, eq_comm]
    | some a =>
      cases new with
      | none => by_cases ha : i = a <;> simp [Four.get_set, ha, eq_comm]
      | some b =>
        have ab : a ≠ b := fun e => same (congrArg some e)
        by_cases ha : i = a
        · simp [Four.get_set, ha, ab, ab.symm]
        · by_cases hb : i = b <;> simp [Four.get_set, hb, ha, ab, ab.symm, eq_comm]

/-! ## The write -/

theorem State.commit_parkedTotal (s : State) (h : Handle) (c : Context) : (s.commit h c).migration.parkedTotal =
    moveCount ((s.ctx h).state = .parked) (c.state = .parked) s.migration.parkedTotal := by
  rw [State.commit_frame]

/-- Writing a context leaves the arbiter, the hold, the port and the run state. -/
theorem State.commit_keepsControl (s : State) (h : Handle) (c : Context) : s.KeepsControl (s.commit h c) := by
  rw [State.commit_frame]
  exact ⟨rfl, rfl, rfl, rfl⟩

theorem State.indexed_eq_none (s : State) (i : Identity) : s.indexed i = none ↔ ∀ e ∈ s.store.index, e.1 ≠ i := by
  simp [State.indexed]

/-- An identity's entry names a context that is indexed and holds it (R5). -/
theorem StoreInv.of_indexed {s : State} (inv : StoreInv s) {i : Identity} {h : Handle} (found : s.indexed i = some h) :
    (s.ctx h).state.indexed = true ∧ (s.ctx h).identity = some i := by
  obtain ⟨e, he, rfl⟩ := Option.map_eq_some_iff.1 found
  have same : e.1 = i := by simpa using List.find?_some he
  exact (inv.index i e.2).1 (same ▸ List.mem_of_find?_eq_some he)

/-- The record `c` may be written at `h`: it is as its rules say, it keeps the identity of an indexed context, and a
context that becomes indexed brings an identity that is not (R3, R5). -/
structure State.Fits (s : State) (h : Handle) (c : Context) : Prop where
  ok : c.ok = true
  keeps : (s.ctx h).state.indexed = true → c.state.indexed = true → c.identity = (s.ctx h).identity
  fresh : (s.ctx h).state.indexed = false → c.state.indexed = true → ∀ i, c.identity = some i → s.indexed i = none

/-- Writing a context that fits keeps the store consistent. -/
theorem StoreInv.commit {s : State} (inv : StoreInv s) {h : Handle} {c : Context} (fits : s.Fits h c) :
    StoreInv (s.commit h c) := by
  have counted (p : Context → Prop) [DecidablePred p] (n : Nat) (before : n = handles.countP (fun k => p (s.ctx k))) :
      n - (if p (s.ctx h) ∧ ¬p c then 1 else 0) + (if ¬p (s.ctx h) ∧ p c then 1 else 0)
        = handles.countP (fun k => p ((s.commit h c).ctx k)) := by
    have off (k : Handle) (e : k ≠ h) : decide (p ((s.commit h c).ctx k)) = decide (p (s.ctx k)) := by
      simp only [State.ctx_commit, e, if_false]
    rw [countP_handles_write off, ← before]
    simp [State.ctx_commit]
  have moved (p : Context → Prop) [DecidablePred p] (n : Nat) (before : n = handles.countP (fun k => p (s.ctx k))) :
      moveCount (p (s.ctx h)) (p c) n = handles.countP (fun k => p ((s.commit h c).ctx k)) := by
    rw [← counted p n before, moveCount_eq]
    simp
  have ctx := s.ctx_commit h
  have probing : h ∈ s.store.probation ↔ decide ((s.ctx h).state = .probation) = true :=
    (inv.probation h).trans decide_eq_true_iff.symm
  have lingering : h ∈ s.store.settlement ↔ decide ((s.ctx h).state = .linger) = true :=
    (inv.settlement h).trans decide_eq_true_iff.symm
  constructor
  case table => simpa using Store.write_wf s.store h c inv.table
  case contexts =>
    intro k
    rw [ctx]
    split
    · exact fits.ok
    · exact inv.contexts k
  case index =>
    intro i k
    rw [ctx, State.commit_store]
    refine (mem_followIndex (fun i => inv.index i h) fits.keeps i k).trans ?_
    split
    · rfl
    · exact inv.index i k
  case indexOnce =>
    rw [State.commit_store]
    exact nodup_followIndex inv.indexOnce fun was now i identity =>
      (s.indexed_eq_none i).1 (fits.fresh was now i identity)
  case probation =>
    intro k
    rw [ctx, State.commit_store]
    refine (mem_followQueue probing k).trans ?_
    split
    · simp
    · exact inv.probation k
  case probationOnce =>
    rw [State.commit_store]
    exact nodup_followQueue probing inv.probationOnce
  case settlement =>
    intro k
    rw [ctx, State.commit_store]
    refine (mem_followQueue lingering k).trans ?_
    split
    · simp
    · exact inv.settlement k
  case settlementOnce =>
    rw [State.commit_store]
    exact nodup_followQueue lingering inv.settlementOnce
  case free =>
    rw [State.commit_store]
    exact moved (fun c => c.state = .free) _ inv.free
  case routes =>
    intro i
    rw [State.commit_store]
    exact (rebind_get _ _ _ i).trans (counted (fun c => c.route = some i) _ (inv.routes i))
  case parked =>
    rw [State.commit_parkedTotal]
    exact moved (fun c => c.state = .parked) _ inv.parked

end Sys2Proof.Machine
end

section
/-! SUPPORT. Every operation that writes a context, as one write that fits (`State.Writes`): the rules of the request
kinds that touch a context (R19), the sweep's visit and the walk steps. -/

namespace Sys2Proof.Machine

/-- What a command does to the Context Store: nothing, or one write of a context that fits where the store is
consistent; with it, changes beside the store. -/
inductive State.Writes (s : State) : State → Prop where
  | none {t : State} (beside : s.Beside t) : Writes s t
  | one {t : State} (h : Handle) (c : Context) (fits : StoreInv s → s.Fits h c) (beside : (s.commit h c).Beside t) :
      Writes s t

namespace State

theorem Writes.keepsControl {s t : State} (writes : s.Writes t) : s.KeepsControl t := by
  cases writes with
  | none beside => exact beside.keepsControl
  | one h c _ beside => exact (s.commit_keepsControl h c).trans beside.keepsControl

theorem Writes.storeInv {s t : State} (writes : s.Writes t) (inv : StoreInv s) : StoreInv t := by
  cases writes with
  | none beside => exact inv.of_keeps beside.keepsStore
  | one h c fits beside => exact (inv.commit (fits inv)).of_keeps beside.keepsStore

theorem Writes.refl (s : State) : s.Writes s := .none (.refl s)

theorem Writes.commit {s : State} {h : Handle} {c : Context} (fits : StoreInv s → s.Fits h c) :
    s.Writes (s.commit h c) := .one h c fits (.refl _)

theorem Writes.trans_beside {s t u : State} (writes : s.Writes t) (tu : t.Beside u) : s.Writes u := by
  cases writes with
  | none beside => exact .none (beside.trans tu)
  | one h c fits beside => exact .one h c fits (beside.trans tu)

/-- A write that keeps the identity, and keeps an indexed context indexed. -/
theorem Fits.of_same {s : State} {h : Handle} {c : Context} (ok : c.ok = true)
    (identity : c.identity = (s.ctx h).identity) (indexed : c.state.indexed = (s.ctx h).state.indexed) : s.Fits h c :=
  ⟨ok, fun _ _ => identity, fun was now => absurd (indexed.symm.trans now) (by simp [was])⟩

/-- A write that leaves the context not indexed: FREE or LINGER. -/
theorem Fits.of_unindexed {s : State} {h : Handle} {c : Context} (ok : c.ok = true)
    (unindexed : c.state.indexed = false) : s.Fits h c :=
  ⟨ok, fun _ now => absurd now (by simp [unindexed]), fun _ now => absurd now (by simp [unindexed])⟩

end State

/-! ## What operations on a context keep of its identity and its place in the index -/

namespace Context

variable (c : Context)

theorem closing_same (voiceOpen emergency dataOpen : Bool) (d : Nat) :
    (c.closing voiceOpen emergency dataOpen d).identity = c.identity ∧
      (c.closing voiceOpen emergency dataOpen d).state.indexed = c.state.indexed := by
  unfold closing
  dsimp only
  split
  · rename_i carrying
    exact ⟨rfl, by simp [carrying, CtxState.indexed]⟩
  · exact ⟨rfl, rfl⟩

theorem closeBearer_same (kind : BearerKind) (d : Nat) :
    (c.closeBearer kind d).identity = c.identity ∧ (c.closeBearer kind d).state.indexed = c.state.indexed := by
  cases kind with
  | voice =>
    rw [closeBearer_voice]
    exact c.closing_same _ _ _ d
  | data =>
    rw [closeBearer_data]
    exact c.closing_same _ _ _ d

theorem closeBearers_same (keep : Bool) (d : Nat) :
    (c.closeBearers keep d).identity = c.identity ∧ (c.closeBearers keep d).state.indexed = c.state.indexed := by
  rw [closeBearers_eq]
  exact c.closing_same _ _ _ d

theorem meetCap_same (d : Nat) :
    (c.meetCap d).identity = c.identity ∧ (c.meetCap d).state.indexed = c.state.indexed := by
  unfold Context.meetCap
  split
  · exact closeBearers_same { c with barred := true } true d
  · exact ⟨rfl, rfl⟩

theorem openBearer_same (kind : BearerKind) (emergency : Bool) :
    (c.openBearer kind emergency).identity = c.identity ∧
      (c.openBearer kind emergency).state.indexed = c.state.indexed := by
  cases kind
  all_goals
    unfold Context.openBearer
    dsimp only
    split
    · rename_i idle
      exact ⟨rfl, by rw [idle]; rfl⟩
    · exact ⟨rfl, rfl⟩

theorem restore_same (i : LinkId) (d : Nat) :
    (c.restore i d).identity = c.identity ∧ (c.restore i d).state.indexed = true := by
  unfold Context.restore
  split <;> exact ⟨rfl, rfl⟩

theorem setCap_same (cap : Nat) (policy : Policy) :
    (c.setCap cap policy).identity = c.identity ∧ (c.setCap cap policy).state = c.state := by
  unfold Context.setCap
  dsimp only
  split <;> exact ⟨rfl, rfl⟩

theorem addedFlags_same (kind : AllowanceKind) :
    (c.addedFlags kind).identity = c.identity ∧ (c.addedFlags kind).state = c.state := by
  cases kind <;> exact ⟨rfl, rfl⟩

theorem admitted_same (s : State) (plan : Fin 8) (cap : Nat) (policy : Policy) :
    (s.admitted c plan cap policy).identity = c.identity ∧
      (s.admitted c plan cap policy).state.indexed = true := by
  unfold State.admitted
  dsimp only
  split <;> exact ⟨rfl, rfl⟩

end Context

theorem Rated.apply_same (r : Rated) (c : Context) (active : Bool) (d : Nat) :
    (r.apply c active d).identity = c.identity ∧ (r.apply c active d).state.indexed = c.state.indexed := by
  unfold Rated.apply
  dsimp only
  split
  · obtain ⟨identity, indexed⟩ := Context.meetCap_same _ d
    rw [identity, indexed]
    split <;> simp
  · split <;> simp

/-! ## Where the rules look a context up -/

/-- A handle found by a search passes. -/
theorem searchHandle_passes {p : Handle → Bool} {fuel n : Nat} {h : Handle} (found : searchHandle p fuel n = some h) :
    p h = true := by
  induction fuel generalizing n with
  | zero => simp [searchHandle] at found
  | succ fuel ih =>
    unfold searchHandle at found
    split at found
    · split at found
      · rename_i passes
        exact Option.some.inj found ▸ passes
      · exact ih found
    · simp at found

theorem State.lowestFree_free {s : State} {h : Handle} (found : s.lowestFree = some h) : (s.ctx h).state = .free := by
  simpa using searchHandle_passes found

/-- An indexed context is not FREE. -/
theorem CtxState.ne_free_of_indexed {state : CtxState} (indexed : state.indexed = true) : state ≠ .free := by
  rintro rfl
  cases indexed

/-! ## Fields of a body within their widths (R186) -/

theorem number_lt (bytes : List Byte) : number bytes < 256 ^ bytes.length := by
  have step (acc : Nat) : bytes.foldl (fun a b => a * 256 + b.toNat) acc < (acc + 1) * 256 ^ bytes.length := by
    induction bytes generalizing acc with
    | nil => simp
    | cons b rest ih =>
      have hb : b.toNat < 256 := b.isLt
      calc (b :: rest).foldl (fun a b => a * 256 + b.toNat) acc
          < (acc * 256 + b.toNat + 1) * 256 ^ rest.length := ih _
        _ ≤ ((acc + 1) * 256) * 256 ^ rest.length := Nat.mul_le_mul_right _ (by omega)
        _ = (acc + 1) * 256 ^ (b :: rest).length := by rw [List.length_cons, pow_succ]; ring
  simpa [number] using step 0

/-- The fields that a body is cut into fit their widths. -/
theorem splitFields_lt {widths : List Nat} {bytes : List Byte} {fields : List Nat}
    (cut : splitFields widths bytes = some fields) : List.Forall₂ (fun w v => v < 256 ^ w) widths fields := by
  induction widths generalizing bytes fields with
  | nil =>
    cases bytes with
    | nil => cases cut; exact .nil
    | cons => cases cut
  | cons w ws ih =>
    unfold splitFields at cut
    split at cut
    · cases cut
    · rename_i long
      obtain ⟨rest, behind, rfl⟩ := Option.map_eq_some_iff.1 cut
      refine .cons ?_ (ih behind)
      have := number_lt (bytes.take w)
      rwa [List.length_take, min_eq_left (by omega)] at this

/-- The fields of a body of fixed layout, within their widths. -/
theorem readFixed_of_read {k : Kind} {body : List Byte} {q : Request} (read : k.read body = some q)
    (fixed : k.read body = (splitFields k.widths body).bind k.readFixed) :
    ∃ fields, List.Forall₂ (fun w v => v < 256 ^ w) k.widths fields ∧ k.readFixed fields = some q := by
  obtain ⟨fields, cut, readFixed⟩ := Option.bind_eq_some_iff.1 (fixed.symm.trans read)
  exact ⟨fields, splitFields_lt cut, readFixed⟩

/-- A SET_CAP carries a cap within R1's range. -/
theorem read_setCap {body : List Byte} {h : Handle} {cap : Nat} {policy : Policy}
    (read : Kind.setCap.read body = some (.setCap h cap policy)) : cap ≤ Config.maxCap := by
  obtain ⟨fields, widths, read⟩ := readFixed_of_read read rfl
  simp only [Kind.widths, List.forall₂_cons_left_iff, List.forall₂_nil_left_iff] at widths
  obtain ⟨_, _, -, ⟨value, _, bound, ⟨_, _, -, rfl, rfl⟩, rfl⟩, rfl⟩ := widths
  simp only [Kind.readFixed, Option.bind_eq_bind, Option.bind_eq_some_iff, Option.pure_def, Option.some.injEq,
    Request.setCap.injEq] at read
  obtain ⟨_, -, _, -, -, rfl, -⟩ := read
  change value ≤ 4294967295
  omega

/-- An ADMIT carries a cap within R1's range. -/
theorem read_admitContext {body : List Byte} {h : Handle} {i : Identity} {plan : Fin 8} {cap : Nat} {policy : Policy}
    (read : Kind.admitContext.read body = some (.admitContext h i plan cap policy)) : cap ≤ Config.maxCap := by
  obtain ⟨fields, widths, read⟩ := readFixed_of_read read rfl
  simp only [Kind.widths, List.forall₂_cons_left_iff, List.forall₂_nil_left_iff] at widths
  obtain ⟨_, _, -, ⟨_, _, -, ⟨_, _, -, ⟨value, _, bound, ⟨_, _, -, rfl, rfl⟩, rfl⟩, rfl⟩, rfl⟩, rfl⟩ := widths
  simp only [Kind.readFixed, Option.bind_eq_bind, Option.bind_eq_some_iff, Option.pure_def, Option.some.injEq,
    Request.admitContext.injEq] at read
  obtain ⟨_, -, _, -, _, -, _, -, -, -, -, rfl, -⟩ := read
  change value ≤ 4294967295
  omega

/-- An ADD_ALLOWANCE carries an amount above 0, within the maximum of its kind (R60). -/
theorem read_addAllowance {body : List Byte} {h : Handle} {kind : AllowanceKind} {amount : Nat} {tag : Byte}
    (read : Kind.addAllowance.read body = some (.addAllowance h kind amount tag)) :
    1 ≤ amount ∧ amount ≤ kind.maximum := by
  obtain ⟨fields, widths, read⟩ := readFixed_of_read read rfl
  simp only [Kind.widths, List.forall₂_cons_left_iff, List.forall₂_nil_left_iff] at widths
  obtain ⟨_, _, -, ⟨_, _, -, ⟨value, _, bound, ⟨_, _, -, rfl, rfl⟩, rfl⟩, rfl⟩, rfl⟩ := widths
  simp only [Kind.readFixed, Option.bind_eq_bind, Option.bind_eq_some_iff, Option.pure_def] at read
  obtain ⟨kind, -, read⟩ := read
  split at read
  · simp at read
  · simp only [readUpTo, Option.bind_eq_some_iff, Option.ite_none_right_eq_some, Option.some.injEq,
      Request.addAllowance.injEq, ↓existsAndEq, and_true, true_and] at read
    obtain ⟨-, within, rfl, rfl, -⟩ := read
    exact ⟨by omega, within⟩

/-! ## The rules that write a context -/

/-- OPEN_BEARER passes its checks on an IDLE or CARRYING context alone, on a barred one only for an emergency voice
bearer (R44). -/
theorem openBearerRefusal_none {s : State} {c : Context} {kind : BearerKind} {emergency : Bool}
    (passes : s.openBearerRefusal c kind emergency = none) :
    (c.state = .idle ∨ c.state = .carrying) ∧ ¬(c.barred = true ∧ ¬(kind = .voice ∧ emergency = true)) := by
  unfold State.openBearerRefusal at passes
  split at passes
  case h_5 | h_6 =>
    split at passes
    · cases passes
    · split at passes
      · cases passes
      · exact ⟨by simp [*], by assumption⟩
  all_goals cases passes

/-- A context that a request names is not FREE (R29). -/
theorem namesContext_used {s : State} {h : Handle} {i : Identity} (named : ¬s.namesContext h i = false) :
    (s.ctx h).state ≠ .free := by
  simp only [State.namesContext, Bool.not_eq_false, Bool.and_eq_true, decide_eq_true_eq] at named
  exact named.1

/-- A context whose report is taken has been admitted (R73). -/
theorem admitted_of_report {c : Context} (taken : c.reportRefusal = none) : c.Admitted := by
  unfold Context.reportRefusal at taken
  dsimp only at taken
  split at taken <;> simp_all [Context.Admitted]

/-- A context that is not FREE retires (R48). -/
theorem State.retireContext_writes (s : State) (h : Handle) (used : StoreInv s → (s.ctx h).state ≠ .free) :
    s.Writes (s.retireContext h) := by
  unfold State.retireContext
  split
  · exact .commit fun _ => .of_unindexed Context.free_ok rfl
  · exact .commit fun inv => .of_unindexed (Context.toLinger_ok (inv.contexts h) ⟨used inv, by assumption⟩ _) rfl

section Rules

variable (q : Option Request) (b : List Byte) (s : State)

theorem attachRule_writes : s.Writes (attachRule q b s).1 := by
  unfold attachRule
  split
  · split
    · rename_i h found
      refine .commit fun inv => ?_
      obtain ⟨indexed, -⟩ := inv.of_indexed found
      exact .of_same (Context.renew_ok (Context.cell_ok (inv.contexts h) (CtxState.ne_free_of_indexed indexed) _) _)
        (by simp) (by simp)
    · rename_i absent
      split
      · exact .refl s
      · split
        · exact .refl s
        · rename_i h found
          refine .commit fun inv => ⟨Context.newContext_ok _ _ _ _, fun was => ?_, ?_⟩
          · simp [State.lowestFree_free found, CtxState.indexed] at was
          · rintro - - i ⟨⟩
            exact absent
  · exact .refl s

theorem lookupRule_writes : s.Writes (lookupRule q b s).1 := by
  unfold lookupRule
  repeat' split
  all_goals exact .refl s

theorem lookupHandleRule_writes : s.Writes (lookupHandleRule q b s).1 := by
  unfold lookupHandleRule
  repeat' split
  all_goals exact .refl s

theorem openBearerRule_writes : s.Writes (openBearerRule q b s).1 := by
  unfold openBearerRule
  split
  · rename_i h kind emergency
    split
    · exact .refl s
    · rename_i passes
      obtain ⟨carried, allowed⟩ := openBearerRefusal_none passes
      obtain ⟨identity, indexed⟩ := (s.ctx h).openBearer_same kind emergency
      exact .commit fun inv =>
        .of_same (Context.openBearer_ok (inv.contexts h) carried kind emergency allowed) identity indexed
  · exact .refl s

theorem closeBearerRule_writes : s.Writes (closeBearerRule q b s).1 := by
  unfold closeBearerRule
  split
  · rename_i h kind
    dsimp only
    split
    · exact .refl s
    · split
      · exact .refl s
      · split
        · exact .refl s
        · rename_i used unretired _
          obtain ⟨identity, indexed⟩ := (s.ctx h).closeBearer_same kind s.idleDeadline
          exact .commit fun inv =>
            .of_same (Context.closeBearer_ok (inv.contexts h) ⟨used, fun new => unretired (.inl new)⟩ kind _)
              identity indexed
  · exact .refl s

theorem detachRule_writes : s.Writes (detachRule q b s).1 := by
  unfold detachRule
  split
  · split
    · exact .refl s
    · rename_i h found
      exact (s.retireContext_writes h fun inv => CtxState.ne_free_of_indexed (inv.of_indexed found).1).trans_beside
        (State.raise_beside _ _ _)
  · exact .refl s

theorem retireRule_writes : s.Writes (retireRule q b s).1 := by
  unfold retireRule
  split
  · split
    · exact .refl s
    · split
      · exact .refl s
      · exact s.retireContext_writes _ fun _ => namesContext_used (by assumption)
  · exact .refl s

theorem admitContextRule_writes
    (carried : ∀ h i plan cap policy, q = some (.admitContext h i plan cap policy) → cap ≤ Config.maxCap) :
    s.Writes (admitContextRule q b s).1 := by
  unfold admitContextRule
  split
  · rename_i h i plan cap policy
    split
    · exact .refl s
    · split
      · exact .refl s
      · rename_i new
        have new : (s.ctx h).state = .probation := not_not.1 new
        obtain ⟨identity, indexed⟩ := (s.ctx h).admitted_same s plan cap policy
        exact .commit fun inv => .of_same
          (Context.admitted_ok (inv.contexts h) new s plan (carried _ _ _ _ _ rfl) policy) identity
          (by rw [indexed, new]; rfl)
  · exact .refl s

theorem refuseRule_writes : s.Writes (refuseRule q b s).1 := by
  unfold refuseRule
  repeat' split
  case isFalse.isFalse => exact .commit fun _ => .of_unindexed Context.free_ok rfl
  all_goals exact .refl s

theorem nextProbationRule_writes : s.Writes (nextProbationRule q b s).1 := by
  unfold nextProbationRule
  split
  · split
    · exact .refl s
    · rename_i h found
      exact .commit fun inv => .of_same
        (Context.handed_ok (inv.contexts h) ((inv.probation h).1 (List.mem_of_find?_eq_some found))) rfl rfl
  · exact .refl s

theorem nextSettlementRule_writes : s.Writes (nextSettlementRule q b s).1 := by
  unfold nextSettlementRule
  repeat' split
  all_goals exact .refl s

theorem settleContextRule_writes : s.Writes (settleContextRule q b s).1 := by
  unfold settleContextRule
  split
  · split
    · exact .refl s
    · split
      · exact .commit fun _ => .of_unindexed Context.free_ok rfl
      · exact .refl s
  · exact .refl s

theorem addAllowanceRule_writes
    (carried : ∀ h kind amount tag, q = some (.addAllowance h kind amount tag) → 1 ≤ amount ∧ amount ≤ kind.maximum) :
    s.Writes (addAllowanceRule q b s).1 := by
  unfold addAllowanceRule
  split
  · rename_i h kind amount tag
    have added (list : List Allowance) (admitted : (s.ctx h).Admitted)
        (ok : (s.ctx h).ok = true → AllowancesOk list) :
        s.Writes (s.commit h ({ s.ctx h with allowances := list }.addedFlags kind)) := by
      obtain ⟨identity, state⟩ := Context.addedFlags_same { s.ctx h with allowances := list } kind
      exact .commit fun inv => .of_same
        (Context.addedFlags_ok (Context.allowances_ok (inv.contexts h) admitted (ok (inv.contexts h))) admitted kind)
        identity (congrArg CtxState.indexed state)
    dsimp only
    split
    · exact .refl s
    · rename_i terms
      have admitted := Context.admitted_of_terms terms
      split
      · rename_i a found
        split
        · exact .refl s
        · rename_i same
          obtain rfl : a.kind = kind := not_not.1 same
          exact added _ admitted fun ok => (Context.account_of_ok ok).allowances.topUp found amount
      · rename_i absent
        split
        · exact .refl s
        · rename_i room
          obtain ⟨above, within⟩ := carried _ _ _ _ rfl
          exact added _ admitted fun ok => (Context.account_of_ok ok).allowances.append absent (by omega)
            (by simp [Allowance.ok, above, within])
  · exact .refl s

theorem removeAllowanceRule_writes : s.Writes (removeAllowanceRule q b s).1 := by
  unfold removeAllowanceRule
  split
  · dsimp only
    split
    · exact .refl s
    · rename_i h tag _ terms
      split
      · exact .refl s
      · exact .commit fun inv => .of_same
          (Context.allowances_ok (inv.contexts h) (Context.admitted_of_terms terms)
            ((Context.account_of_ok (inv.contexts h)).allowances.filter _)) rfl rfl
  · exact .refl s

theorem setCapRule_writes (carried : ∀ h cap policy, q = some (.setCap h cap policy) → cap ≤ Config.maxCap) :
    s.Writes (setCapRule q b s).1 := by
  unfold setCapRule
  split
  · rename_i h cap policy
    dsimp only
    split
    · exact .refl s
    · rename_i terms
      obtain ⟨identity, state⟩ := (s.ctx h).setCap_same cap policy
      exact .commit fun inv => .of_same
        (Context.setCap_ok (inv.contexts h) (Context.admitted_of_terms terms) (carried _ _ _ rfl) policy) identity
        (congrArg CtxState.indexed state)
  · exact .refl s

theorem setPlanRule_writes : s.Writes (setPlanRule q b s).1 := by
  unfold setPlanRule
  split
  · rename_i h plan
    dsimp only
    split
    · exact .refl s
    · rename_i terms
      exact .commit fun inv => .of_same
        (Context.plan_ok (inv.contexts h) (Context.admitted_of_terms terms) plan) rfl rfl
  · exact .refl s

theorem reportUsageRule_writes : s.Writes (reportUsageRule q b s).1 := by
  unfold reportUsageRule
  split
  · rename_i h slot tag up down seconds
    dsimp only
    split
    · exact .refl s
    · rename_i taken
      have told (t : State) (r : Rated) (writes : s.Writes t) (cap : Nat) : s.Writes
          (let t := r.tags.foldl (fun t tag => t.raiseSpent h tag) t
            if r.moneyPart.meetsCap cap then t.raiseCap h else t) := by
        have spent := writes.trans_beside
          (State.Beside.foldl (f := fun t tag => t.raiseSpent h tag) (fun t _ => t.raise_beside _ _) r.tags t)
        dsimp only
        split
        · exact spent.trans_beside (State.raise_beside _ _ _)
        · exact spent
      refine told _ _ (.commit fun inv => ?_) _
      obtain ⟨identity, indexed⟩ := Rated.apply_same _ (s.ctx h) _ s.idleDeadline
      exact .of_same (Rated.apply_ok (inv.contexts h) (admitted_of_report taken) _ _ _ _ _) identity indexed
  · exact .refl s

end Rules

/-! ## The sweep's visit and the walk steps -/

namespace State

theorem visit_writes (s : State) (h : Handle) : s.Writes (s.visit h) := by
  have lingering (used : (s.ctx h).Admitted) : s.Writes (s.commit h ((s.ctx h).toLinger s.lingerDeadline)) :=
    .commit fun inv => .of_unindexed (Context.toLinger_ok (inv.contexts h) used _) rfl
  unfold State.visit
  dsimp only
  split
  · exact .refl s
  · split
    · exact .refl s
    · exact .refl s
    · exact (Writes.commit fun _ => .of_unindexed Context.free_ok rfl).trans_beside (raise_beside _ _ _)
    · rename_i idle
      exact (lingering (by simp [Context.Admitted, idle])).trans_beside (raise_beside _ _ _)
    · rename_i parked
      exact (lingering (by simp [Context.Admitted, parked])).trans_beside (raise_beside _ _ _)
    · rename_i linger
      split
      · exact .commit fun inv => .of_same (Context.closeLinger_ok (inv.contexts h) linger) rfl rfl
      · exact .refl s

theorem darkWork_writes (s : State) (h : Handle) : s.Writes (s.darkWork h) := by
  have silenced (used : (s.ctx h).Admitted) :
      s.Writes (s.commit h ((s.ctx h).closeBearers false s.idleDeadline)) := by
    obtain ⟨identity, indexed⟩ := (s.ctx h).closeBearers_same false s.idleDeadline
    refine .commit fun inv => .of_same ?_ identity indexed
    have ok := inv.contexts h
    exact Context.closeBearers_ok used (Context.fields_of_ok ok) (Context.account_of_ok ok) false _
  unfold State.darkWork
  split
  · rename_i carrying
    exact silenced (by simp [Context.Admitted, carrying])
  · rename_i parked
    exact silenced (by simp [Context.Admitted, parked])
  all_goals exact .refl s

/-- A routed context has been admitted, and is not in LINGER with linger open (R3). -/
theorem admitted_of_routed {c : Context} (routed : c.routed = true) :
    c.Admitted ∧ (c.fieldsOk = true → c.lingerOpen = false) ∧ c.state.indexed = true := by
  simp only [Context.routed, Bool.or_eq_true, decide_eq_true_eq] at routed
  obtain idle | carrying := routed
  · refine ⟨by simp [Context.Admitted, idle], fun fields => ?_, by rw [idle]; rfl⟩
    rw [Context.fieldsOk_idle idle] at fields
    simp [fields]
  · refine ⟨by simp [Context.Admitted, carrying], fun fields => ?_, by rw [carrying]; rfl⟩
    rw [Context.fieldsOk_carrying carrying] at fields
    simp [fields]

theorem failoverWork_writes (s : State) (h : Handle) : s.Writes (s.failoverWork h) := by
  unfold State.failoverWork
  dsimp only
  split
  · rename_i routed _
    obtain ⟨admitted, unlingering, indexed⟩ := admitted_of_routed routed
    split
    · split
      · exact .commit fun inv => .of_same (Context.route_ok (inv.contexts h) routed _) rfl rfl
      · refine (Writes.commit fun inv => ?_).trans_beside ⟨⟨rfl, rfl⟩, ⟨rfl, rfl, rfl, rfl⟩⟩
        have ok := inv.contexts h
        exact .of_same (Context.park_ok ok admitted (unlingering (Context.fields_of_ok ok)) _) rfl
          (by rw [indexed]; rfl)
    · exact .refl s
  all_goals exact .refl s

theorem unparkWork_writes (s : State) (h : Handle) : s.Writes (s.unparkWork h) := by
  unfold State.unparkWork
  dsimp only
  split
  · rename_i parked
    split
    · rename_i i _
      obtain ⟨identity, indexed⟩ := (s.ctx h).restore_same i s.idleDeadline
      exact .commit fun inv => .of_same (Context.restore_ok (inv.contexts h) parked i _) identity
        (by rw [indexed, parked]; rfl)
    · exact .refl s
  · exact .refl s

theorem shiftWork_writes (s : State) (h : Handle) : s.Writes (s.shiftWork h) := by
  unfold State.shiftWork
  dsimp only
  split
  · exact .refl s
  · split
    · rename_i routed
      exact (Writes.commit fun inv =>
        .of_same (Context.route_ok (inv.contexts h) routed.1 _) rfl rfl).trans_beside
          ⟨⟨rfl, rfl⟩, ⟨rfl, rfl, rfl, rfl⟩⟩
    · exact .refl s

/-- A walk's work at a handle writes at most that context. -/
theorem work_writes (k : WalkKind) (h : Handle) (s : State) : s.Writes (k.work h s) := by
  cases k
  · exact s.failoverWork_writes h
  · exact s.shiftWork_writes h
  · exact s.unparkWork_writes h
  · exact s.darkWork_writes h

theorem failoverComplete_beside (s : State) : s.Beside s.failoverComplete := by
  unfold State.failoverComplete
  refine .trans ?_ (nextWalk_beside _)
  dsimp only
  split <;> exact ⟨⟨rfl, rfl⟩, ⟨rfl, rfl, rfl, rfl⟩⟩

theorem shiftComplete_beside (s : State) : s.Beside s.shiftComplete := by
  have cleared (moved : Nat) : s.Beside
      ({ s with migration := { s.migration with shift := none, draining := none } }.raiseShiftDone moved) :=
    ⟨⟨rfl, rfl⟩, ⟨rfl, rfl, rfl, rfl⟩⟩
  exact (cleared _).trans (nextWalk_beside _)

theorem complete_beside (k : WalkKind) (s : State) : s.Beside (k.complete s) := by
  cases k
  · exact s.failoverComplete_beside
  · exact s.shiftComplete_beside
  · exact s.nextWalk_beside
  · exact (s.setMode_beside _).trans (nextWalk_beside _)

/-- A walk step writes at most the context at the cursor. -/
theorem walked_writes (s : State) (w : Walk) : s.Writes (s.walked w) := by
  have work := work_writes w.kind w.cursor s
  unfold State.walked
  dsimp only
  split
  · exact work.trans_beside (complete_beside _ _)
  · exact work.trans_beside ⟨⟨rfl, rfl⟩, ⟨rfl, rfl, rfl, rfl⟩⟩

end State

end Sys2Proof.Machine
end

section
/-! SUPPORT. The rules of all request kinds by the blocks they write, and what a command does to the Context Store. -/

namespace Sys2Proof.Machine

section Rules

variable {k : Kind} {rule : Option Request → List Byte → State → State × Reply}

/-- The kinds whose rule changes the hold, the run state or the port (R24, R176, R196). -/
def Kind.controls (k : Kind) : Bool := [Kind.releaseStore, .start, .configureRequester].contains k

/-- A kind that touches no context and controls nothing has a rule beside the store. -/
theorem rule_beside (ruled : k.rule = some rule) (untouched : k.touchesContext = false)
    (controls : k.controls = false) (q : Option Request) (b : List Byte) (s : State) : s.Beside (rule q b s).1 := by
  cases k
  case setCeiling => exact Option.some.inj ruled ▸ setCeilingRule_beside q b s
  case readEvents => exact Option.some.inj ruled ▸ readEventsRule_beside q b s
  case setEventMask => exact Option.some.inj ruled ▸ setEventMaskRule_beside q b s
  case ackEvents => exact Option.some.inj ruled ▸ ackEventsRule_beside q b s
  case openProfile => exact Option.some.inj ruled ▸ openProfileRule_beside q b s
  case writeProfileHeader => exact Option.some.inj ruled ▸ writeProfileHeaderRule_beside q b s
  case writeTariffRow => exact Option.some.inj ruled ▸ writeTariffRowRule_beside q b s
  case writeCandidates => exact Option.some.inj ruled ▸ writeCandidatesRule_beside q b s
  case readProfile => exact Option.some.inj ruled ▸ readProfileRule_beside q b s
  case discardProfile => exact Option.some.inj ruled ▸ discardProfileRule_beside q b s
  case stageProfile => exact Option.some.inj ruled ▸ stageProfileRule_beside q b s
  case enterZone => exact Option.some.inj ruled ▸ enterZoneRule_beside q b s
  case configureLink => exact Option.some.inj ruled ▸ configureLinkRule_beside q b s
  case probeResult => exact Option.some.inj ruled ▸ probeResultRule_beside q b s
  case openLink => exact Option.some.inj ruled ▸ openLinkRule_beside q b s
  case closeLink => exact Option.some.inj ruled ▸ closeLinkRule_beside q b s
  case setRoute => exact Option.some.inj ruled ▸ setRouteRule_beside q b s
  case clearRoute => exact Option.some.inj ruled ▸ clearRouteRule_beside q b s
  case readRoute => exact Option.some.inj ruled ▸ readRouteRule_beside q b s
  case shift => exact Option.some.inj ruled ▸ shiftRule_beside q b s
  case abortShift => exact Option.some.inj ruled ▸ abortShiftRule_beside q b s
  case setLimits => exact Option.some.inj ruled ▸ setLimitsRule_beside q b s
  case readStatus => exact Option.some.inj ruled ▸ readStatusRule_beside q b s
  case holdStore => cases ruled
  case releaseStore | start | configureRequester => exact absurd controls (by decide)
  all_goals exact absurd untouched (by decide)

/-- A rule that controls something leaves the store and the arbiter, and grants no hold: the hold stays or is
NOT_HELD. -/
theorem rule_controls (ruled : k.rule = some rule) (controls : k.controls = true) (q : Option Request) (b : List Byte)
    (s : State) : s.KeepsStore (rule q b s).1 ∧ (rule q b s).1.arbiter = s.arbiter ∧
      ((rule q b s).1.hold = s.hold ∨ (rule q b s).1.hold.state = .notHeld) := by
  cases k
  case releaseStore => exact Option.some.inj ruled ▸ releaseStoreRule_frame q b s
  case start =>
    obtain ⟨store, arbiter, hold⟩ := startRule_frame q b s
    exact Option.some.inj ruled ▸ ⟨store, arbiter, .inl hold⟩
  case configureRequester =>
    obtain ⟨store, arbiter, hold⟩ := configureRequesterRule_frame q b s
    exact Option.some.inj ruled ▸ ⟨store, arbiter, .inl hold⟩
  all_goals exact absurd controls (by decide)

/-- A kind that touches a context, CLEAR_VOYAGE apart, writes at most one context. -/
theorem rule_writes (ruled : k.rule = some rule) (touches : k.touchesContext = true) (one : k ≠ .clearVoyage)
    (body : List Byte) (s : State) : s.Writes (rule (k.read body) body s).1 := by
  cases k
  case attach => exact Option.some.inj ruled ▸ attachRule_writes _ body s
  case lookup => exact Option.some.inj ruled ▸ lookupRule_writes _ body s
  case lookupHandle => exact Option.some.inj ruled ▸ lookupHandleRule_writes _ body s
  case openBearer => exact Option.some.inj ruled ▸ openBearerRule_writes _ body s
  case closeBearer => exact Option.some.inj ruled ▸ closeBearerRule_writes _ body s
  case detach => exact Option.some.inj ruled ▸ detachRule_writes _ body s
  case retire => exact Option.some.inj ruled ▸ retireRule_writes _ body s
  case admitContext =>
    exact Option.some.inj ruled ▸ admitContextRule_writes _ body s fun _ _ _ _ _ => read_admitContext
  case refuse => exact Option.some.inj ruled ▸ refuseRule_writes _ body s
  case nextProbation => exact Option.some.inj ruled ▸ nextProbationRule_writes _ body s
  case nextSettlement => exact Option.some.inj ruled ▸ nextSettlementRule_writes _ body s
  case settleContext => exact Option.some.inj ruled ▸ settleContextRule_writes _ body s
  case addAllowance =>
    exact Option.some.inj ruled ▸ addAllowanceRule_writes _ body s fun _ _ _ _ => read_addAllowance
  case removeAllowance => exact Option.some.inj ruled ▸ removeAllowanceRule_writes _ body s
  case setCap => exact Option.some.inj ruled ▸ setCapRule_writes _ body s fun _ _ _ => read_setCap
  case setPlan => exact Option.some.inj ruled ▸ setPlanRule_writes _ body s
  case reportUsage => exact Option.some.inj ruled ▸ reportUsageRule_writes _ body s
  case clearVoyage => exact absurd rfl one
  all_goals exact absurd touches (by decide)

/-- CLEAR_VOYAGE refused, or done (R198). -/
theorem clearVoyageRule_cases (q : Option Request) (b : List Byte) (s : State) :
    (clearVoyageRule q b s).1 = s ∨ (clearVoyageRule q b s).1 = s.clearVoyage := by
  unfold clearVoyageRule
  split
  · exact .inr rfl
  · exact .inl rfl

theorem State.clearVoyage_keepsControl (s : State) : s.KeepsControl s.clearVoyage := by
  unfold State.clearVoyage
  dsimp only
  split <;> exact ⟨rfl, rfl, rfl, rfl⟩

end Rules

/-- What a command does to the Context Store: nothing; a reset; the rule of a request that touches a context; a granted
visit; a granted walk step. -/
theorem State.Taken.store_cases {s t : State} {c : Instr} (taken : s.Taken c t) :
    s.KeepsStore t
    ∨ ((c = .powerOn ∨ c = .resetLine) ∧ ∃ asserted settle, t = s.initialized asserted settle)
    ∨ (∃ k rule r m, k.touchesContext = true ∧ Kind.rule k = some rule ∧ s.inService = some (r, m)
        ∧ Kind.ofCode m.kind.toNat = some k ∧ s.portRefusal r m = none
        ∧ (rule (k.read m.body) m.body s).1.KeepsStore t)
    ∨ (s.arbiter = .granted .sweep ∧ (s.visit s.sweep.cursor).KeepsStore t)
    ∨ ∃ w, s.arbiter = .granted (.walk w.kind) ∧ (s.walked w).KeepsStore t := by
  induction taken with
  | reset asserted settle cause => exact .inr (.inl ⟨cause, asserted, settle, rfl⟩)
  | skipped => exact .inl (.refl s)
  | answered reply => exact .inl (s.finish_keepsStore _ _ _)
  | @ruled k rule r m ruled served kind passes =>
    have finished := State.finish_keepsStore (rule (k.read m.body) m.body s).1 r m (rule (k.read m.body) m.body s).2
    cases touches : k.touchesContext with
    | true => exact .inr (.inr (.inl ⟨k, rule, r, m, touches, ruled, served, kind, passes, finished⟩))
    | false =>
      cases controls : k.controls with
      | true => exact .inl ((rule_controls ruled controls _ _ s).1.trans finished)
      | false => exact .inl ((rule_beside ruled touches controls _ _ s).keepsStore.trans finished)
  | lineInactive _ ih =>
    have drawn {u v : State} (keeps : u.KeepsStore v) : u.KeepsStore v.lineInactive := ⟨keeps.store, keeps.parked⟩
    obtain keeps | ⟨cause, -⟩ | ⟨k, rule, r, m, touches, ruled, served, kind, passes, keeps⟩ | ⟨grant, keeps⟩
      | ⟨w, grant, keeps⟩ := ih
    · exact .inl (drawn keeps)
    · exact absurd cause (by simp)
    · exact .inr (.inr (.inl ⟨k, rule, r, m, touches, ruled, served, kind, passes, drawn keeps⟩))
    · exact .inr (.inr (.inr (.inl ⟨grant, drawn keeps⟩)))
    · exact .inr (.inr (.inr (.inr ⟨w, grant, drawn keeps⟩)))
  | holdRequested => exact .inl (.concluded ⟨rfl, rfl⟩)
  | holdGranted =>
    have granted := State.answerHold_keepsStore
      { s with arbiter := .held, hold := ⟨.held, some (s.limits.hold * Config.microsPerMs), false⟩ }
    exact .inl ⟨granted.store, granted.parked⟩
  | holdExpiring => exact .inl ⟨rfl, rfl⟩
  | holdExpired => exact .inl (.concluded (s.revokeHold_keepsStore))
  | clocked => exact .inl (.concluded ⟨rfl, rfl⟩)
  | visited grant =>
    exact .inr (.inr (.inr (.inl ⟨grant, .concluded ⟨rfl, rfl⟩⟩)))
  | @walked w _ grant =>
    exact .inr (.inr (.inr (.inr ⟨w, grant, .concluded ⟨rfl, rfl⟩⟩)))
  | arrived => exact .inl (.concluded ((s.arrive_keepsStore _ _)))
  | graceEnded => exact .inl (.concluded (s.expireGrace_beside.keepsStore))
  | dwellEnded => exact .inl (.concluded ((s.setLink_beside _ _).keepsStore))
  | trackLost =>
    exact .inl (.concluded (((s.setLink_beside _ _).trans (State.raise_beside _ _ _)).keepsStore))
  | carryLapsed =>
    exact .inl (.concluded (((s.demote_beside _).trans (State.raise_beside _ _ _)).keepsStore))
  | quietEnded => exact .inl (.concluded ⟨rfl, rfl⟩)
  | released => exact .inl ⟨rfl, rfl⟩

/-! ## The store while the hold is granted (R22, R23) -/

/-- A request that touches a context and passes its checks is for the store. -/
theorem State.forStore_of_passes {s : State} {k : Kind} {r : RequesterId} {m : Message}
    (kind : Kind.ofCode m.kind.toNat = some k)
    (passes : s.portRefusal r m = none) (touches : k.touchesContext = true) : s.forStore r m = true := by
  simp [State.forStore, kind, passes, touches]

/-- Settles O33: under the hold no visit and no walk step is granted, and a request that touches a context is in
service for requester 0 alone. -/
theorem holdProtectsContexts : Obligations.HoldProtectsContexts := by
  intro c s t inv held noPower noReset notMaster ran
  have arbiter : s.arbiter = .held := inv.held.2 held
  obtain keeps | ⟨cause, -⟩ | ⟨k, rule, r, m, touches, -, served, kind, passes, -⟩ | ⟨grant, -⟩ | ⟨w, grant, -⟩ :=
    (exec_taken ran).store_cases
  · exact keeps.store
  · exact (cause.elim noPower noReset).elim
  · obtain ⟨engine, head, -⟩ := State.inService_serving served
    obtain grant | ⟨rfl, -⟩ := inv.engineServes r m engine head (State.forStore_of_passes kind passes touches)
    · simp [arbiter] at grant
    · exact absurd served (notMaster m)
  · simp [arbiter] at grant
  · simp [arbiter] at grant

/-! ## The consistency of the store -/

/-- A store in which every context is FREE, with all else to match, is consistent: after reset and after
CLEAR_VOYAGE. -/
theorem StoreInv.of_cleared {s : State} (store : s.store = Store.cleared) (parked : s.migration.parkedTotal = 0) :
    StoreInv s := by
  have ctx (h : Handle) : s.ctx h = Context.free := by rw [State.ctx, store]; rfl
  constructor <;> simp only [store, parked, ctx]
  case table => rfl
  case contexts => exact fun _ => Context.free_ok
  case free => simp [handles, Context.free, Store.cleared, Config.contextCount]
  all_goals simp [Store.cleared, Context.free, CtxState.indexed]

/-- The rule of a request that touches a context keeps the store consistent. -/
theorem StoreInv.served {s : State} (inv : StoreInv s) {k : Kind}
    {rule : Option Request → List Byte → State → State × Reply} (ruled : k.rule = some rule)
    (touches : k.touchesContext = true) (body : List Byte) : StoreInv (rule (k.read body) body s).1 := by
  by_cases one : k = .clearVoyage
  · subst one
    obtain rfl : clearVoyageRule = rule := Option.some.inj ruled
    obtain h | h := clearVoyageRule_cases (Kind.clearVoyage.read body) body s <;> rw [h]
    · exact inv
    · refine .of_cleared ?_ ?_ <;> unfold State.clearVoyage <;> dsimp only <;> split <;> rfl
  · exact (rule_writes ruled touches one body s).storeInv inv

/-- Every command keeps the store consistent. -/
theorem StoreInv.taken {s t : State} {c : Instr} (inv : StoreInv s) (taken : s.Taken c t) : StoreInv t := by
  obtain keeps | ⟨-, asserted, settle, rfl⟩ | ⟨k, rule, r, m, touches, ruled, -, -, -, keeps⟩ | ⟨-, keeps⟩
    | ⟨w, -, keeps⟩ := taken.store_cases
  · exact inv.of_keeps keeps
  · exact .of_cleared rfl rfl
  · exact (inv.served ruled touches m.body).of_keeps keeps
  · exact ((s.visit_writes _).storeInv inv).of_keeps keeps
  · exact ((s.walked_writes w).storeInv inv).of_keeps keeps

/-- Settles O54: an idle step leaves the store, and a command keeps it consistent. -/
theorem storeStaysConsistent : Obligations.StoreStaysConsistent := by
  intro s t inv ran
  unfold step at ran
  split at ran
  · obtain rfl := Host.Outcome.next.inj ran
    exact inv.of_keeps ⟨rfl, rfl⟩
  · rename_i rest _
    exact (inv.of_keeps (t := { s with pending := rest }) ⟨rfl, rfl⟩).taken (exec_taken ran)

end Sys2Proof.Machine
end

section
/-! SUPPORT. The end of every event: the head taken, the grant made, the flags and the line (R18, R179, R180, R191,
R194). -/

namespace Sys2Proof.Machine

/-! ## The best of a list -/

/-- The member of a list that no later one betters, the earlier of two equals, as the two arbiters choose (R18,
R180). -/
def pick {α : Type} (better : α → α → Prop) [DecidableRel better] (l : List α) : Option α :=
  l.foldl (fun best c => match best with
    | none => some c
    | some b => if better c b then some c else best) none

section Pick

variable {α : Type} {better : α → α → Prop} [DecidableRel better]

theorem pick_concat (l : List α) (c : α) : pick better (l ++ [c]) =
    match pick better l with
    | none => some c
    | some b => if better c b then some c else some b := by
  simp only [pick, List.foldl_append, List.foldl_cons, List.foldl_nil]
  split <;> simp only [*]

theorem pick_none {l : List α} : pick better l = none ↔ l = [] := by
  induction l using List.reverseRecOn with
  | nil => simp [pick]
  | append_singleton l c ih =>
    rw [pick_concat]
    cases pick better l with
    | none => simp
    | some b => simp only [List.append_eq_nil_iff, List.cons_ne_self, and_false, iff_false]; split <;> simp

theorem pick_mem {l : List α} {b : α} (picked : pick better l = some b) : b ∈ l := by
  induction l using List.reverseRecOn generalizing b with
  | nil => simp [pick] at picked
  | append_singleton l c ih =>
    rw [pick_concat] at picked
    cases behind : pick better l with
    | none =>
      simp only [behind, Option.some.injEq] at picked
      simp [picked]
    | some a =>
      simp only [behind] at picked
      split at picked <;> obtain rfl := Option.some.inj picked
      · simp
      · simp [ih behind]

/-- What is picked by a rank has the least rank. -/
theorem pick_least {rank : α → Nat} {l : List α} {b : α} (picked : pick (fun c b => rank c < rank b) l = some b) :
    ∀ c ∈ l, rank b ≤ rank c := by
  induction l using List.reverseRecOn generalizing b with
  | nil => simp
  | append_singleton l a ih =>
    rw [pick_concat] at picked
    intro c hc
    obtain hc | rfl := by simpa using hc
    · cases behind : pick (fun c b => rank c < rank b) l with
      | none => simp [pick_none.1 behind] at hc
      | some d =>
        have := ih behind c hc
        simp only [behind] at picked
        split at picked <;> obtain rfl := Option.some.inj picked <;> omega
    · cases behind : pick (fun c b => rank c < rank b) l with
      | none => simp_all
      | some d =>
        simp only [behind] at picked
        split at picked <;> obtain rfl := Option.some.inj picked <;> omega

end Pick

namespace State

/-! ## Contenders and grants (R18) -/

theorem mem_allContenders (c : Contender) : c ∈ allContenders := by
  unfold allContenders
  cases c with
  | walk k => cases k <;> decide
  | _ => decide

theorem foremost_eq (s : State) :
    s.foremost = pick (fun c b => s.rank c < s.rank b) (allContenders.filter s.contends) := by
  unfold State.foremost pick
  congr 1
  funext best c
  cases best <;> rfl

theorem foremost_none {s : State} (none : s.foremost = .none) (c : Contender) : s.contends c = false := by
  rw [foremost_eq, pick_none] at none
  simpa using List.filter_eq_nil_iff.1 none c (mem_allContenders c)

/-- Two contenders of one rank are one, since one walk alone is in progress. -/
theorem contends_rank_inj {s : State} {a b : Contender} (ha : s.contends a = true) (hb : s.contends b = true)
    (rank : s.rank a = s.rank b) : a = b := by
  have walk (k l : WalkKind) (hk : s.contends (.walk k) = true) (hl : s.contends (.walk l) = true) : k = l := by
    unfold State.contends at hk hl
    cases walk : s.migration.walk <;> simp_all
  cases a with
  | walk k =>
    cases b with
    | walk l => rw [walk k l ha hb]
    | sweep => cases k <;> simp only [State.rank] at rank <;> split at rank <;> omega
    | _ => cases k <;> simp [State.rank] at rank
  | sweep =>
    cases b with
    | walk k => cases k <;> simp only [State.rank] at rank <;> split at rank <;> omega
    | sweep => rfl
    | _ => simp only [State.rank] at rank; split at rank <;> omega
  | hold =>
    cases b with
    | walk k => cases k <;> simp [State.rank] at rank
    | sweep => simp only [State.rank] at rank; split at rank <;> omega
    | hold => rfl
    | request => simp [State.rank] at rank
  | request =>
    cases b with
    | walk k => cases k <;> simp [State.rank] at rank
    | sweep => simp only [State.rank] at rank; split at rank <;> omega
    | hold => simp [State.rank] at rank
    | request => rfl

/-- The foremost contender contends, and every other contender is of a lower rank. -/
theorem foremost_some {s : State} {c : Contender} (found : s.foremost = some c) :
    s.contends c = true ∧ ∀ d, s.contends d = true → d ≠ c → s.rank c < s.rank d := by
  rw [foremost_eq] at found
  have contends : s.contends c = true := (List.mem_filter.1 (pick_mem found)).2
  refine ⟨contends, fun d hd other => ?_⟩
  have least := pick_least (rank := s.rank) found d (List.mem_filter.2 ⟨mem_allContenders d, hd⟩)
  exact lt_of_le_of_ne least fun e => other (contends_rank_inj hd contends e.symm)

/-- What a grant that is made anew can be. -/
theorem award_cases (s : State) :
    (s.isHeld = true ∧ s.award.arbiter = .held)
    ∨ (s.isHeld = false ∧ s.award.arbiter = .idle ∧ ∀ c, s.contends c = false)
    ∨ (s.isHeld = false ∧ ∃ c, s.award.arbiter = .granted c ∧ s.contends c = true
        ∧ ∀ d, s.contends d = true → d ≠ c → s.rank c < s.rank d) := by
  unfold State.award
  cases held : s.isHeld with
  | true => exact .inl ⟨rfl, rfl⟩
  | false =>
    cases found : s.foremost with
    | none => exact .inr (.inl ⟨rfl, rfl, foremost_none found⟩)
    | some c =>
      obtain ⟨contends, first⟩ := foremost_some found
      exact .inr (.inr ⟨rfl, c, rfl, contends, first⟩)

/-- The arbiter at the end of an event: a standing grant, the standing hold, or a grant made anew. -/
theorem regrant_cases (s : State) :
    (∃ c, s.arbiter = .granted c ∧ s.contends c = true ∧ s.regrant = s)
    ∨ (s.arbiter = .held ∧ s.isHeld = true ∧ s.regrant = s)
    ∨ ((∀ c, s.arbiter = .granted c → s.contends c = false) ∧ s.regrant = s.award) := by
  unfold State.regrant
  cases arbiter : s.arbiter with
  | idle => exact .inr (.inr ⟨by simp, rfl⟩)
  | granted c =>
    cases contends : s.contends c with
    | true => exact .inl ⟨c, rfl, contends, by simp [contends]⟩
    | false => exact .inr (.inr ⟨by rintro d ⟨⟩; exact contends, by simp [contends]⟩)
  | held =>
    cases held : s.isHeld with
    | true => exact .inr (.inl ⟨rfl, rfl, by simp⟩)
    | false => exact .inr (.inr ⟨by simp, by simp⟩)

/-- The contender granted at the end of an event contends. -/
theorem contends_of_regrant {s : State} {c : Contender} (grant : s.regrant.arbiter = .granted c) :
    s.contends c = true := by
  obtain ⟨d, arbiter, contends, stays⟩ | ⟨arbiter, -, stays⟩ | ⟨-, anew⟩ := s.regrant_cases
  · rw [stays, arbiter] at grant
    exact Arbiter.granted.inj grant ▸ contends
  · rw [stays, arbiter] at grant
    cases grant
  · rw [anew] at grant
    obtain ⟨-, h⟩ | ⟨-, h, -⟩ | ⟨-, d, h, contends, -⟩ := s.award_cases <;> rw [h] at grant <;> cases grant
    exact contends

/-- Making a grant changes no contention. -/
theorem regrant_contends (s : State) (c : Contender) : s.regrant.contends c = s.contends c := by
  rw [s.regrant_frame]
  cases c with
  | request =>
    unfold State.contends
    dsimp only
    cases engine : s.port.engine with
    | serving r =>
      have asked : s.contends .request = decide (s.arbiter = .granted .request) := by
        simp only [State.contends, engine]
      by_cases grant : s.arbiter = .granted .request
      · obtain ⟨d, -, -, stays⟩ | ⟨held, -⟩ | ⟨lapsed, -⟩ := s.regrant_cases
        · rw [stays]
        · rw [grant] at held; cases held
        · have := lapsed _ grant
          simp [asked, grant] at this
      · have : s.regrant.arbiter ≠ .granted .request := fun h => by
          simpa [asked, grant] using contends_of_regrant h
        simp [grant, this]
    | _ => rfl
  | _ => rfl

/-- The engine's entry into SERVING changes no contention. -/
theorem enterService_contends (s : State) (c : Contender) : s.enterService.contends c = s.contends c := by
  rw [s.enterService_eq]
  cases c with
  | request =>
    unfold State.contends
    dsimp only [State.setEngine]
    cases s.port.engine with
    | awaitingGrant r => by_cases grant : s.arbiter = .granted .request <;> simp [grant]
    | _ => rfl
  | _ => rfl

/-! ## The head taken (R179, R180) -/

theorem chooseHead_eq (s : State) :
    s.chooseHead = pick (fun r b => (s.entry b).level < (s.entry r).level) (requesterIds.filter s.headEligible) := by
  unfold State.chooseHead pick
  congr 1
  funext best r
  cases best <;> rfl

theorem chooseHead_none {s : State} : s.chooseHead = none ↔ ∀ r, s.headEligible r = false := by
  have all (r : RequesterId) : r ∈ requesterIds := by revert r; decide
  rw [chooseHead_eq, pick_none, List.filter_eq_nil_iff]
  exact ⟨fun h r => by simpa using h r (all r), fun h r _ => by simp [h r]⟩

/-- The head chosen is eligible, so it is a message that the hold does not hold back. -/
theorem chooseHead_some {s : State} {r : RequesterId} (chosen : s.chooseHead = some r) :
    ∃ m, (s.entry r).queue.head? = some m ∧ (s.isHeld = true → s.forStore r m = true → r = 0) := by
  rw [chooseHead_eq] at chosen
  have eligible := (List.mem_filter.1 (pick_mem chosen)).2
  unfold State.headEligible at eligible
  cases head : (s.entry r).queue.head? with
  | none => simp [head] at eligible
  | some m =>
    refine ⟨m, rfl, fun held store => ?_⟩
    simpa [head, held, store] using eligible

theorem takeHead_busy {s : State} (busy : s.port.engine ≠ .idle) : s.takeHead = s := by
  unfold State.takeHead
  split
  · rfl
  · rfl
  · exact absurd (by assumption) busy

theorem takeHead_idle {s : State} (idle : s.port.engine = .idle) (none : s.chooseHead = .none) : s.takeHead = s := by
  simp only [State.takeHead, idle, none]

theorem takeHead_chosen {s : State} (idle : s.port.engine = .idle) {r : RequesterId} {m : Message}
    (chosen : s.chooseHead = some r) (head : (s.entry r).queue.head? = some m) :
    s.takeHead = s.setEngine (if s.forStore r m && !s.isHeld then .awaitingGrant r else .serving r) := by
  simp only [State.takeHead, idle, chosen, head]

/-! ## The end of an event -/

/-- The engine and the arbiter at the end of an event. -/
theorem conclude_arbiter (s : State) : s.conclude.arbiter = s.takeHead.regrant.arbiter := by
  change s.takeHead.regrant.enterService.arbiter = _
  rw [enterService_eq]
  rfl

theorem conclude_engine (s : State) : s.conclude.port.engine =
    match s.takeHead.port.engine with
    | .awaitingGrant r => if s.conclude.arbiter = .granted .request then .serving r else .awaitingGrant r
    | .serving r => .serving r
    | .idle => .idle := by
  rw [conclude_arbiter]
  change s.takeHead.regrant.enterService.port.engine = _
  rw [enterService_eq, regrant_frame]
  rfl

theorem conclude_contends (s : State) (c : Contender) : s.conclude.contends c = s.takeHead.contends c := by
  change s.takeHead.regrant.enterService.contends c = _
  rw [enterService_contends, regrant_contends]

theorem takeHead_arbiter (s : State) : s.takeHead.arbiter = s.arbiter := by rw [s.takeHead_frame]

theorem takeHead_isHeld (s : State) : s.takeHead.isHeld = s.isHeld := by rw [s.takeHead_frame]; rfl

theorem conclude_rank (s : State) (c : Contender) : s.conclude.rank c = s.takeHead.rank c := by
  rw [s.conclude_frame, s.takeHead_frame]
  rfl

/-- The arbiter at the end of an event: a standing grant, the standing hold, or a grant made anew. -/
theorem conclude_arbiter_cases (s : State) :
    (∃ c, s.arbiter = .granted c ∧ s.conclude.contends c = true ∧ s.conclude.arbiter = .granted c)
    ∨ ((∀ c, s.arbiter = .granted c → s.conclude.contends c = false)
      ∧ ((s.isHeld = true ∧ s.conclude.arbiter = .held)
        ∨ (s.isHeld = false ∧ s.conclude.arbiter = .idle ∧ ∀ c, s.conclude.contends c = false)
        ∨ (s.isHeld = false ∧ ∃ c, s.conclude.arbiter = .granted c ∧ s.conclude.contends c = true
            ∧ ∀ d, s.conclude.contends d = true → d ≠ c → s.conclude.rank c < s.conclude.rank d))) := by
  simp only [conclude_contends, conclude_rank, conclude_arbiter, ← takeHead_arbiter s, ← takeHead_isHeld s]
  obtain ⟨c, arbiter, contends, stays⟩ | ⟨arbiter, held, stays⟩ | ⟨lapsed, anew⟩ := s.takeHead.regrant_cases
  · exact .inl ⟨c, arbiter, contends, by rw [stays, arbiter]⟩
  · exact .inr ⟨by simp [arbiter], .inl ⟨held, by rw [stays, arbiter]⟩⟩
  · exact .inr ⟨lapsed, anew ▸ s.takeHead.award_cases⟩

end State

end Sys2Proof.Machine
end

section
/-! The end of every event, and the grants that every step keeps with a contender (O12, O59). -/

namespace Sys2Proof.Machine

/-! ## The end of an event -/

namespace State

/-- A flag stays pending unless its clearing condition holds (R191). -/
theorem conclude_isPending (s : State) (e : Event) : s.conclude.isPending e = (s.isPending e && !s.clears e) := by
  have arbitrated : s.takeHead.arbitrate.clears = s.clears :=
    clears_congr (by rw [arbitrate_frame, takeHead_frame]) (by rw [arbitrate_frame, takeHead_frame])
      (by rw [arbitrate_frame, takeHead_frame])
  have bound : e.num < 17 := by cases e <;> decide
  have pending : s.conclude.events.pendingSet
      = s.events.pendingSet &&& ~~~s.takeHead.arbitrate.clearedSet := by
    change s.takeHead.arbitrate.events.pendingSet &&& _ = _
    rw [show s.takeHead.arbitrate.events = s.events by rw [arbitrate_frame, takeHead_frame]]
  simp only [State.isPending, pending, BitVec.getLsbD_and, BitVec.getLsbD_not, bound, decide_true, Bool.true_and,
    clearedSet_bit, arbitrated]

/-- The line follows its condition (R194). -/
theorem conclude_attention (s : State) : s.conclude.events.attention = true ↔ s.conclude.events.calls := by
  have line : s.conclude.events.attention = s.conclude.events.lineCondition := rfl
  rw [line]
  simp [EventSet.lineCondition, EventSet.calls]

end State

/-- Settles O12: the engine's choice, the arbiter's grant, the flags and the line, each by what it can be. -/
theorem eventConcludes : Obligations.EventConcludes := by
  intro s t awaits
  have engine := s.conclude_engine
  have held : s.isHeld = true ↔ s.hold.state = .held := decide_eq_true_iff
  refine ⟨s.conclude_frame, fun r serving => ?_, fun r awaiting => ?_, fun idle none => ?_,
    fun r m idle chosen head => ?_, fun c grant contends => ?_, fun lapsed granted => ?_, fun lapsed free => ?_,
    s.conclude_isPending, s.conclude_attention⟩
  · rw [State.takeHead_busy (by simp [serving]), serving] at engine
    exact engine
  · rw [State.takeHead_busy (by simp [awaiting]), awaiting] at engine
    exact engine
  · rw [State.takeHead_idle idle none, idle] at engine
    exact engine
  · rw [State.takeHead_chosen idle chosen head] at engine
    have waits : (s.forStore r m && !s.isHeld) = true ↔ s.forStore r m = true ∧ s.hold.state ≠ .held := by
      simp [State.isHeld]
    simp only [State.setEngine_port, waits] at engine
    split
    · rename_i h
      rw [if_pos h] at engine
      exact engine
    · rename_i h
      rw [if_neg h] at engine
      exact engine
  · obtain ⟨d, arbiter, -, stays⟩ | ⟨lapsed, -⟩ := s.conclude_arbiter_cases
    · exact Arbiter.granted.inj (grant.symm.trans arbiter) ▸ stays
    · exact absurd contends (by simp [lapsed c grant, t])
  · obtain ⟨d, arbiter, contends, -⟩ | ⟨-, ⟨-, anew⟩ | ⟨free, -⟩ | ⟨free, -⟩⟩ := s.conclude_arbiter_cases
    · exact absurd contends (by simpa [t] using lapsed d arbiter)
    · exact anew
    · simp [held.2 granted] at free
    · simp [held.2 granted] at free
  · obtain ⟨d, arbiter, contends, -⟩ | ⟨-, ⟨granted, -⟩ | ⟨-, idle⟩ | ⟨-, anew⟩⟩ := s.conclude_arbiter_cases
    · exact absurd contends (by simpa [t] using lapsed d arbiter)
    · exact absurd (held.1 granted) free
    · exact .inl idle
    · exact .inr anew

/-! ## What every step keeps of the grants -/

namespace State

/-- No contender is granted the store while the hold is: what a service and an event keep of `ArbiterInv` in between. -/
def NoGrantHeld (s : State) : Prop := ∀ c, s.arbiter = .granted c → s.hold.state ≠ .held

/-- The request that the engine is SERVING is a queue's head, and where it touches a context it has the grant, or the
hold for requester 0 (R20, R22, R177). -/
structure EngineOk (s : State) : Prop where
  holds : ∀ r, s.port.engine = .awaitingGrant r ∨ s.port.engine = .serving r → (s.entry r).queue ≠ []
  serves : ∀ r m, s.port.engine = .serving r → (s.entry r).queue.head? = some m → s.forStore r m = true →
    s.arbiter = .granted .request ∨ (r = 0 ∧ s.hold.state = .held)

end State

open State

theorem ArbiterInv.noGrantHeld {s : State} (inv : ArbiterInv s) : s.NoGrantHeld := fun c grant held => by
  simpa [grant] using inv.held.2 held

/-- An IDLE engine serves nothing. -/
theorem State.EngineOk.of_idle {s : State} (idle : s.port.engine = .idle) : s.EngineOk :=
  ⟨fun r h => by simp [idle] at h, fun r m h => by simp [idle] at h⟩

namespace State

/-- Whether a request is for the store is read from its requester's class and the run state alone. -/
theorem forStore_of_class {s t : State} {r : RequesterId} (cls : (t.entry r).cls = (s.entry r).cls)
    (runState : t.runState = s.runState) (m : Message) : t.forStore r m = s.forStore r m := by
  have refusal : t.portRefusal r m = s.portRefusal r m := by
    unfold State.portRefusal
    rw [cls, runState]
  unfold State.forStore
  rw [refusal]

theorem forStore_congr {s t : State} (entries : t.port.entries = s.port.entries) (runState : t.runState = s.runState) :
    t.forStore = s.forStore := by
  funext r m
  exact forStore_of_class (by simp only [State.entry, entries]) runState m

theorem headEligible_congr {s t : State} (entries : t.port.entries = s.port.entries)
    (runState : t.runState = s.runState) (hold : t.hold = s.hold) : t.headEligible = s.headEligible := by
  funext r
  simp only [State.headEligible, State.entry, State.isHeld, forStore_congr entries runState, entries, hold]

theorem conclude_entries (s : State) : s.conclude.port.entries = s.port.entries := by rw [s.conclude_frame]

theorem conclude_runState (s : State) : s.conclude.runState = s.runState := by rw [s.conclude_frame]

theorem conclude_entry (s : State) (r : RequesterId) : s.conclude.entry r = s.entry r := by
  simp only [State.entry, s.conclude_entries]

theorem conclude_forStore (s : State) : s.conclude.forStore = s.forStore :=
  forStore_congr s.conclude_entries s.conclude_runState

/-- Taking a head keeps the engine's request a head that may be served. -/
theorem EngineOk.takeHead {s : State} (before : s.EngineOk) : s.takeHead.EngineOk := by
  by_cases idle : s.port.engine = .idle
  · cases chosen : s.chooseHead with
    | none => rwa [takeHead_idle idle chosen]
    | some r =>
      obtain ⟨m, head, free⟩ := chooseHead_some chosen
      have queued : (s.entry r).queue ≠ [] := fun empty => by simp [empty] at head
      rw [takeHead_chosen idle chosen head]
      refine ⟨fun r' taken => ?_, fun r' m' serving head' store => ?_⟩
      · have same : r = r' := by
          rw [setEngine_port] at taken
          dsimp only at taken
          split at taken <;> simpa using taken
        exact same ▸ queued
      · rw [setEngine_port] at serving
        dsimp only at serving
        split at serving <;> cases serving
        rename_i served
        obtain rfl : m = m' := Option.some.inj (head.symm.trans head')
        have store : s.forStore r m = true := store
        have held : s.isHeld = true := by simpa [store] using served
        exact .inr ⟨free held store, of_decide_eq_true held⟩
  · rwa [takeHead_busy idle]

/-- An engine left IDLE had no eligible head to take (R180). -/
theorem ineligible_of_takeHead {s : State} (idle : s.takeHead.port.engine = .idle) (r : RequesterId) :
    s.headEligible r = false := by
  by_cases free : s.port.engine = .idle
  · cases chosen : s.chooseHead with
    | none => exact chooseHead_none.1 chosen r
    | some r' =>
      obtain ⟨m, head, -⟩ := chooseHead_some chosen
      rw [takeHead_chosen free chosen head, setEngine_port] at idle
      dsimp only at idle
      split at idle <;> cases idle
  · rw [takeHead_busy free] at idle
    exact absurd idle free

theorem takeHead_entry (s : State) (r : RequesterId) : s.takeHead.entry r = s.entry r := by
  rw [s.takeHead_frame]
  rfl

theorem takeHead_forStore (s : State) : s.takeHead.forStore = s.forStore :=
  forStore_congr (by rw [s.takeHead_frame]) (by rw [s.takeHead_frame])

theorem takeHead_hold (s : State) : s.takeHead.hold = s.hold := by rw [s.takeHead_frame]

/-- The end of an event keeps the engine's request a head that may be served. -/
theorem EngineOk.conclude {s : State} (before : s.EngineOk) : s.conclude.EngineOk := by
  have taken := before.takeHead
  have engine := s.conclude_engine
  refine ⟨fun r holds => ?_, fun r m serving head store => ?_⟩
  · rw [conclude_entry, ← takeHead_entry]
    refine taken.holds r ?_
    cases was : s.takeHead.port.engine with
    | idle => simp [engine, was] at holds
    | serving r' => simpa [engine, was] using holds
    | awaitingGrant r' =>
      simp only [engine, was] at holds
      split at holds <;> simpa using holds
  · rw [conclude_hold]
    cases was : s.takeHead.port.engine with
    | idle => simp [engine, was] at serving
    | awaitingGrant r' =>
      simp only [engine, was] at serving
      split at serving
      · exact .inl (by assumption)
      · cases serving
    | serving r' =>
      obtain rfl : r' = r := by simpa [engine, was] using serving
      rw [conclude_entry, ← takeHead_entry] at head
      rw [conclude_forStore, ← takeHead_forStore] at store
      obtain grant | held := taken.serves r' m was head store
      · have contends : s.conclude.contends .request = true := by
          rw [conclude_contends]
          simp [State.contends, was, grant]
        rw [takeHead_arbiter] at grant
        obtain ⟨c, arbiter, -, stays⟩ | ⟨lapsed, -⟩ := s.conclude_arbiter_cases
        · exact .inl (Arbiter.granted.inj (grant.symm.trans arbiter) ▸ stays)
        · simp [lapsed _ grant] at contends
      · exact .inr (takeHead_hold s ▸ held)

end State

/-- The end of an event establishes the invariant of the arbiter and the engine. -/
theorem ArbiterInv.of_conclude {s : State} (grants : s.NoGrantHeld) (engine : s.EngineOk) : ArbiterInv s.conclude where
  held := by
    have held : s.isHeld = true ↔ s.hold.state = .held := decide_eq_true_iff
    rw [conclude_hold, ← held]
    obtain ⟨c, arbiter, -, stays⟩ | ⟨-, ⟨held, granted⟩ | ⟨free, idle, -⟩ | ⟨free, c, grant, -⟩⟩ :=
      s.conclude_arbiter_cases
    · simpa [stays, held] using grants c arbiter
    · simpa [granted] using held
    · simpa [idle] using free
    · simpa [grant] using free
  granted := fun c grant => by
    rw [conclude_contends]
    exact contends_of_regrant (s.conclude_arbiter ▸ grant)
  idle := fun idle => by
    obtain ⟨c, -, -, stays⟩ | ⟨-, ⟨-, granted⟩ | ⟨-, -, silent⟩ | ⟨-, c, grant, -⟩⟩ := s.conclude_arbiter_cases
    · simp [idle] at stays
    · simp [idle] at granted
    · exact silent
    · simp [idle] at grant
  engineIdle := fun idle r => by
    rw [headEligible_congr s.conclude_entries s.conclude_runState s.conclude_hold]
    refine ineligible_of_takeHead ?_ r
    rw [s.conclude_engine] at idle
    split at idle
    · split at idle <;> cases idle
    · cases idle
    · assumption
  engineHolds := engine.conclude.holds
  grantServes := fun grant => by
    have contends := contends_of_regrant (s.conclude_arbiter ▸ grant)
    have became := s.conclude_engine
    cases was : s.takeHead.port.engine with
    | idle =>
      rw [State.contends, was] at contends
      cases contends
    | awaitingGrant r => exact ⟨r, by rw [became, was]; exact if_pos grant⟩
    | serving r => exact ⟨r, by rw [became, was]⟩
  engineServes := engine.conclude.serves

/-! ## The end of a service -/

namespace State

theorem NoGrantHeld.mono {s t : State} (before : s.NoGrantHeld)
    (grants : ∀ c, t.arbiter = .granted c → s.arbiter = .granted c)
    (hold : t.hold.state = .held → s.hold.state = .held) : t.NoGrantHeld :=
  fun c grant held => before c (grants c grant) (hold held)

theorem NoGrantHeld.regrant {s : State} (before : s.NoGrantHeld) : s.regrant.NoGrantHeld := by
  have hold : s.regrant.hold = s.hold := by rw [s.regrant_frame]
  intro c grant
  rw [hold]
  obtain ⟨d, arbiter, -⟩ | ⟨held, -, stays⟩ | ⟨-, anew⟩ := s.regrant_cases
  · exact before d arbiter
  · simp [stays, held] at grant
  · rw [anew] at grant
    obtain ⟨-, h⟩ | ⟨-, h, -⟩ | ⟨free, -⟩ := s.award_cases
    · simp [h] at grant
    · simp [h] at grant
    · simpa [State.isHeld] using free

theorem NoGrantHeld.arbitrate {s : State} (before : s.NoGrantHeld) : s.arbitrate.NoGrantHeld := by
  unfold State.arbitrate
  rw [enterService_eq]
  exact before.regrant

theorem NoGrantHeld.grantAtOnce {s : State} (before : s.NoGrantHeld) : s.grantAtOnce.NoGrantHeld := by
  unfold State.grantAtOnce
  split
  · exact before
  · exact before.arbitrate
  · exact before.arbitrate

/-- The release of the engine ends no grant but the request's own, and leaves the engine IDLE. -/
theorem releaseEngine_frame (s : State) (r : RequesterId) : (s.releaseEngine r).hold = s.hold
    ∧ (s.releaseEngine r).port.engine = .idle
    ∧ ∀ c, (s.releaseEngine r).arbiter = .granted c → s.arbiter = .granted c := by
  unfold State.releaseEngine
  dsimp only
  split
  · exact ⟨rfl, rfl, fun c grant => by cases grant⟩
  · exact ⟨rfl, rfl, fun c grant => grant⟩

theorem revokeHold_frame (s : State) : s.revokeHold.hold.state = .notHeld ∧ s.revokeHold.arbiter = s.arbiter
    ∧ s.revokeHold.port = s.port := by
  unfold State.revokeHold
  rw [s.endHold_eq]
  exact ⟨rfl, rfl, rfl⟩

theorem takeDueExpiry_frame (s : State) : (s.takeDueExpiry.hold.state = .held → s.hold.state = .held)
    ∧ s.takeDueExpiry.arbiter = s.arbiter ∧ s.takeDueExpiry.port = s.port := by
  unfold State.takeDueExpiry
  split
  · obtain ⟨hold, arbiter, port⟩ := s.revokeHold_frame
    exact ⟨fun held => by simp [hold] at held, arbiter, port⟩
  · exact ⟨id, rfl, rfl⟩

end State

/-- The end of a service establishes the invariant of the arbiter and the engine. -/
theorem ArbiterInv.of_finish {s : State} (grants : s.NoGrantHeld) (r : RequesterId) (m : Message) (reply : Reply) :
    ArbiterInv (s.finish r m reply) := by
  unfold State.finish
  dsimp only
  generalize answer : ({ requester := r, kind := m.kind, tag := m.tag, status := reply.status, body := reply.body } :
    Answer) = a
  have sent : (s.grantAtOnce.send a).NoGrantHeld := grants.grantAtOnce
  obtain ⟨hold, idle, grant⟩ := (s.grantAtOnce.send a).releaseEngine_frame r
  obtain ⟨hold', arbiter', port'⟩ := ((s.grantAtOnce.send a).releaseEngine r).takeDueExpiry_frame
  refine .of_conclude (sent.mono (fun c h => grant c (arbiter' ▸ h)) fun held => hold ▸ hold' held) (.of_idle ?_)
  rw [port', idle]

/-! ## Commands -/

/-- An arrival changes the port alone: it puts at most a message behind the others of its queue (R178). -/
theorem State.arrive_frame (s : State) (r : RequesterId) (m : Message) : (s.arrive r m).arbiter = s.arbiter
    ∧ (s.arrive r m).hold = s.hold ∧ (s.arrive r m).runState = s.runState
    ∧ (s.arrive r m).port.engine = s.port.engine
    ∧ ∀ r', ((s.arrive r m).entry r').cls = (s.entry r').cls
      ∧ ∃ more, ((s.arrive r m).entry r').queue = (s.entry r').queue ++ more := by
  have unqueued (r' : RequesterId) : (s.entry r').cls = (s.entry r').cls
      ∧ ∃ more, (s.entry r').queue = (s.entry r').queue ++ more := ⟨rfl, [], by simp⟩
  unfold State.arrive
  dsimp only
  split
  · exact ⟨rfl, rfl, rfl, rfl, unqueued⟩
  · split
    · exact ⟨rfl, rfl, rfl, rfl, unqueued⟩
    · refine ⟨rfl, rfl, rfl, rfl, fun r' => ?_⟩
      rw [State.entry_setEntry]
      split
      · rename_i same
        exact same ▸ ⟨rfl, [m], rfl⟩
      · exact unqueued r'

/-- A rule makes no grant under the hold. -/
theorem State.NoGrantHeld.rule {s : State} (before : s.NoGrantHeld) {k : Kind}
    {rule : Option Request → List Byte → State → State × Reply} (ruled : k.rule = some rule) (body : List Byte) :
    (rule (k.read body) body s).1.NoGrantHeld := by
  have kept {t : State} (keeps : s.KeepsControl t) : t.NoGrantHeld :=
    before.mono (fun c h => keeps.arbiter ▸ h) (fun h => keeps.hold ▸ h)
  cases touches : k.touchesContext with
  | true =>
    by_cases one : k = .clearVoyage
    · subst one
      obtain rfl : clearVoyageRule = rule := Option.some.inj ruled
      obtain h | h := clearVoyageRule_cases (Kind.clearVoyage.read body) body s <;> rw [h]
      · exact before
      · exact kept s.clearVoyage_keepsControl
    · exact kept (rule_writes ruled touches one body s).keepsControl
  | false =>
    cases controls : k.controls with
    | true =>
      obtain ⟨-, arbiter, hold⟩ := rule_controls ruled controls (k.read body) body s
      refine before.mono (fun c h => arbiter ▸ h) fun held => ?_
      obtain same | ended := hold
      · exact same ▸ held
      · simp [ended] at held
    | false => exact kept (rule_beside ruled touches controls _ body s).keepsControl

namespace ArbiterInv

variable {s t : State}

/-- `ArbiterInv` reads the arbiter, the hold's state, the sweep, the walk in progress, the entries, the engine and the
run state. -/
theorem of_same (inv : ArbiterInv s) (arbiter : t.arbiter = s.arbiter) (hold : t.hold.state = s.hold.state)
    (sweep : t.sweep = s.sweep) (walk : t.migration.walk = s.migration.walk)
    (entries : t.port.entries = s.port.entries) (engine : t.port.engine = s.port.engine)
    (runState : t.runState = s.runState) : ArbiterInv t := by
  have entry (r : RequesterId) : t.entry r = s.entry r := by simp only [State.entry, entries]
  have store := forStore_congr entries runState
  have eligible (r : RequesterId) : t.headEligible r = s.headEligible r := by
    simp only [State.headEligible, State.isHeld, entry, store, hold]
  have contends (c : Contender) : t.contends c = s.contends c := by
    cases c <;> simp only [State.contends, hold, sweep, walk, engine, arbiter]
  exact {
    held := by simpa only [arbiter, hold] using inv.held
    granted := by simpa only [arbiter, contends] using inv.granted
    idle := by simpa only [arbiter, contends] using inv.idle
    engineIdle := by simpa only [engine, eligible] using inv.engineIdle
    engineHolds := by simpa only [engine, entry] using inv.engineHolds
    grantServes := by simpa only [arbiter, engine] using inv.grantServes
    engineServes := by simpa only [arbiter, hold, engine, entry, store] using inv.engineServes }

/-- An event that leaves the arbiter, the hold, the port and the run state keeps the invariant by its end. -/
theorem concluded (inv : ArbiterInv s) (keeps : s.KeepsControl t) : ArbiterInv t.conclude := by
  have store := forStore_congr (congrArg Port.entries keeps.port) keeps.runState
  refine .of_conclude ?_ ⟨?_, ?_⟩
  · exact inv.noGrantHeld.mono (fun c h => keeps.arbiter ▸ h) (fun h => keeps.hold ▸ h)
  · simpa only [State.entry, keeps.port] using inv.engineHolds
  · simpa only [State.entry, keeps.port, keeps.arbiter, keeps.hold, store] using inv.engineServes

/-- The end of a granted visit or walk step, whose grant has ended. -/
theorem stepped (inv : ArbiterInv s) {c : Contender} (grant : s.arbiter = .granted c) (other : c ≠ .request)
    (idle : t.arbiter = .idle) (port : t.port = s.port) (runState : t.runState = s.runState) :
    ArbiterInv t.conclude := by
  have store := forStore_congr (congrArg Port.entries port) runState
  refine .of_conclude (fun d h => by simp [idle] at h) ⟨?_, fun r m serving head touches => ?_⟩
  · simpa only [State.entry, port] using inv.engineHolds
  · rw [port] at serving
    simp only [State.entry, port] at head
    rw [store] at touches
    obtain own | ⟨-, held⟩ := inv.engineServes r m serving head touches
    · exact absurd (Arbiter.granted.inj (grant.symm.trans own)) other
    · exact absurd held (inv.noGrantHeld c grant)

/-- A message's arrival leaves the head of a queue that is not empty (R178). -/
theorem arrived (inv : ArbiterInv s) (r : RequesterId) (m : Message) : ArbiterInv (s.arrive r m).conclude := by
  obtain ⟨arbiter, hold, runState, engine, entries⟩ := s.arrive_frame r m
  refine .of_conclude ?_ ⟨fun r' holds => ?_, fun r' m' serving head touches => ?_⟩
  · exact inv.noGrantHeld.mono (fun c h => arbiter ▸ h) (fun h => hold ▸ h)
  · obtain ⟨-, more, queue⟩ := entries r'
    simp [queue, inv.engineHolds r' (engine ▸ holds)]
  · obtain ⟨cls, more, queue⟩ := entries r'
    rw [engine] at serving
    have queued := inv.engineHolds r' (.inr serving)
    rw [queue, List.head?_append_of_ne_nil _ queued] at head
    rw [forStore_of_class cls runState] at touches
    rw [arbiter, hold]
    exact inv.engineServes r' m' serving head touches

/-- The grant to the hold (R21). -/
theorem answerHold (grants : s.NoGrantHeld)
    (holds : ∀ r, s.port.engine = .awaitingGrant r ∨ s.port.engine = .serving r → (s.entry r).queue ≠ []) :
    ArbiterInv s.answerHold := by
  unfold State.answerHold
  split
  · rename_i r serving
    split
    · exact .of_finish grants _ _ _
    · rename_i empty
      exact absurd (by simpa using empty) (holds r (.inr serving))
  · rename_i idle
    exact .of_conclude grants (.of_idle idle)
  · rename_i r awaiting
    exact .of_conclude grants ⟨holds, fun r' m serving => by simp [awaiting] at serving⟩

/-- Power-on and the RESET line leave nothing in any queue and no contender (R195). -/
theorem of_initialized (s : State) (asserted : Bool) (settle : Nat) : ArbiterInv (s.initialized asserted settle) := by
  have empty : ∀ r, ((s.initialized asserted settle).entry r).queue = [] := by
    intro r
    change (State.reset.entry r).queue = []
    revert r
    decide
  constructor
  case held => exact iff_of_false (fun h => by cases h) (fun h => by cases h)
  case granted => exact fun c h => by cases h
  case idle => exact fun _ c => by cases c <;> rfl
  case engineIdle => exact fun _ r => by simp [State.headEligible, empty]
  case engineHolds => exact fun r h => by obtain h | h := h <;> cases h
  case grantServes => exact fun h => by cases h
  case engineServes => exact fun r m h => by cases h

/-- Every command keeps the invariant of the arbiter and the engine. -/
theorem taken {c : Instr} (inv : ArbiterInv s) (taken : s.Taken c t) : ArbiterInv t := by
  induction taken with
  | reset asserted settle => exact .of_initialized s asserted settle
  | skipped => exact inv
  | answered reply => exact .of_finish inv.noGrantHeld _ _ _
  | ruled ruled => exact .of_finish (inv.noGrantHeld.rule ruled _) _ _ _
  | lineInactive _ ih => exact ih.of_same rfl rfl rfl rfl rfl rfl rfl
  | holdRequested _ free =>
    refine .of_conclude (fun c _ held => by cases held) ⟨inv.engineHolds, fun r m serving head touches => ?_⟩
    obtain grant | ⟨-, held⟩ := inv.engineServes r m serving head touches
    · exact .inl grant
    · exact absurd held free
  | holdGranted => exact .answerHold (fun c grant => by cases grant) inv.engineHolds
  | holdExpiring => exact inv.of_same rfl rfl rfl rfl rfl rfl rfl
  | holdExpired _ between =>
    obtain ⟨hold, arbiter, port⟩ := s.revokeHold_frame
    refine .of_conclude (fun c _ held => by simp [hold] at held) ⟨?_, fun r m serving => ?_⟩
    · simpa only [State.entry, port] using inv.engineHolds
    · exact absurd (port ▸ serving) (between r)
  | clocked => exact inv.concluded ⟨rfl, rfl, rfl, rfl⟩
  | visited grant =>
    have visit := (s.visit_writes s.sweep.cursor).keepsControl
    exact inv.stepped grant (by simp) rfl visit.port visit.runState
  | @walked w _ grant =>
    have walked := (s.walked_writes w).keepsControl
    exact inv.stepped grant (by simp) rfl walked.port walked.runState
  | arrived => exact inv.arrived _ _
  | graceEnded => exact inv.concluded s.expireGrace_beside.keepsControl
  | dwellEnded => exact inv.concluded (s.setLink_beside _ _).keepsControl
  | trackLost => exact inv.concluded ((s.setLink_beside _ _).trans (raise_beside _ _ _)).keepsControl
  | carryLapsed => exact inv.concluded ((s.demote_beside _).trans (raise_beside _ _ _)).keepsControl
  | quietEnded => exact inv.concluded ⟨rfl, rfl, rfl, rfl⟩
  | released => exact inv.of_same rfl rfl rfl rfl rfl rfl rfl

end ArbiterInv

/-- Settles O59: an idle step moves timers alone, and every command keeps the grant with a contender. -/
theorem grantStaysWithContender : Obligations.GrantStaysWithContender := by
  intro s t inv ran
  unfold step at ran
  split at ran
  · obtain rfl := Host.Outcome.next.inj ran
    exact inv.of_same rfl rfl rfl rfl rfl rfl rfl
  · rename_i rest _
    have queued : ArbiterInv { s with pending := rest } := inv.of_same rfl rfl rfl rfl rfl rfl rfl
    exact queued.taken (exec_taken ran)

end Sys2Proof.Machine
end

section
/-! The rest of the Context Store's statements: one context's change, the master hold, the clock and the sweep, and
CLEAR_VOYAGE (O15, O32, O34, O52). -/

namespace Sys2Proof.Machine

/-! ## One context's change -/

/-- The bit of an event stands at its own number alone (R190). -/
theorem Event.bit_getLsbD (e d : Event) : e.bit.getLsbD d.num = decide (d = e) := by
  have member (x : Event) : x ∈ allEvents := by cases x <;> decide
  have all : ∀ e ∈ allEvents, ∀ d ∈ allEvents, e.bit.getLsbD d.num = decide (d = e) := by decide
  exact all e (member e) d (member d)

theorem State.raise_isPending (s : State) (e d : Event) (details : Details) :
    (s.raise e details).isPending d = (s.isPending d || decide (d = e)) := by
  simp [State.isPending, Event.bit_getLsbD]

/-- A write leaves every flag pending, and raises the flag of the lifecycle queue that the handle joins (R35, R52). -/
theorem State.commit_isPending (s : State) (h : Handle) (c : Context) (e : Event) : (s.commit h c).isPending e =
    (s.isPending e
      || (decide (e = .attachWaiting) && decide ((s.ctx h).state ≠ .probation ∧ c.state = .probation))
      || (decide (e = .settleWaiting) && decide ((s.ctx h).state ≠ .linger ∧ c.state = .linger))) := by
  have flagged (t : State) (joins : Prop) [Decidable joins] (d : Event) :
      (if joins then t.raisePlain d else t).isPending e = (t.isPending e || (decide (e = d) && decide joins)) := by
    split
    · simp [State.raisePlain, State.raise_isPending, *]
    · simp [*]
  unfold State.commit
  dsimp only
  rw [flagged, flagged]
  rfl

/-- A lifecycle queue's join and leave, as R32 gives them. -/
theorem followQueue_eq (was now : Prop) [Decidable was] [Decidable now] (h : Handle) (queue : List Handle) :
    followQueue was now h queue =
      if was ∧ ¬now then queue.filter (· ≠ h) else if ¬was ∧ now then queue ++ [h] else queue := by
  by_cases hw : was <;> by_cases hn : now <;> simp [followQueue, hw, hn]

/-- A count's move, as R2 and R158 give it. -/
theorem moveCount_prop (was now : Prop) [Decidable was] [Decidable now] (n : Nat) :
    moveCount was now n = n - (if was ∧ ¬now then 1 else 0) + (if ¬was ∧ now then 1 else 0) := by
  simp [moveCount_eq]

/-- The Identity Index's join and leave, as R5 gives them. -/
theorem followIndex_eq (old new : Context) (h : Handle) (index : List (Identity × Handle)) :
    followIndex old new h index =
      if old.state.indexed = new.state.indexed then index
      else if old.state.indexed = true then index.filter (fun e => e.2 ≠ h)
      else match new.identity with
        | some i => index ++ [(i, h)]
        | none => index := by
  unfold followIndex
  cases old.state.indexed <;> cases new.state.indexed <;> rfl

/-- Settles O15: the write's frame, and each thing that follows the record. -/
theorem contextWritten : Obligations.ContextWritten := by
  intro s h c t old
  have store : t.store = s.store.write h c := s.commit_store h c
  have ctx (k : Handle) : t.ctx k = if k = h then c else s.ctx k := s.ctx_commit h k c
  refine ⟨?_, by simp [ctx], fun k other => by simp [ctx, other], ?_, ?_, ?_, ?_, fun i => ?_, ?_,
    s.commit_isPending h c⟩
  · refine (s.commit_frame h c).trans ?_
    rw [store, show t.migration.parkedTotal = _ from s.commit_parkedTotal h c]
  · rw [store]
    exact followIndex_eq _ _ _ _
  · rw [store]
    exact followQueue_eq _ _ _ _
  · rw [store]
    exact followQueue_eq _ _ _ _
  · rw [store]
    exact moveCount_prop _ _ _
  · rw [store]
    exact rebind_get _ _ _ i
  · rw [show t.migration.parkedTotal = _ from s.commit_parkedTotal h c]
    exact moveCount_prop _ _ _

/-! ## The master hold -/

/-- A HOLD_STORE in service, by the hold's state (R21). -/
theorem exec_holdStore {s : State} {r : RequesterId} {m : Message} (serves : s.Serves r m .holdStore) :
    exec .holdStore s = .next (if s.hold.state = .held then s.finish r m (.refusal .wrongState)
      else { s with hold := { s.hold with state := .requested } }.conclude) := by
  obtain ⟨served, passes, kind, read⟩ := serves
  have code : Kind.ofCode m.kind.toNat = some .holdStore := kind ▸ Kind.ofCode_code .holdStore
  have readable : Kind.read .holdStore m.body ≠ none := by simp [show Kind.read .holdStore m.body = _ from read]
  change execHoldStore s = _
  simp only [execHoldStore, served, code, passes, readable, if_true, if_false]

/-- The hold's grant answers the HOLD_STORE that waits (R21). -/
theorem State.answerHold_serving {s : State} {r : RequesterId} {m : Message} (serving : s.port.engine = .serving r)
    (head : (s.entry r).queue.head? = some m) : s.answerHold = s.finish r m (.ok (octets 2 s.limits.hold)) := by
  simp only [State.answerHold, serving, head]

/-- A request in service that has a rule runs it (R182). -/
theorem exec_serves {s : State} {r : RequesterId} {m : Message} {q : Request}
    {rule : Option Request → List Byte → State → State × Reply} (serves : s.Serves r m q)
    (command : exec q.kind.command s = .next (s.serve q.kind rule)) :
    exec q.kind.command s = .next ((rule (some q) m.body s).1.finish r m (rule (some q) m.body s).2) := by
  obtain ⟨served, passes, kind, read⟩ := serves
  rw [command, State.serve_eq served passes kind read]

/-- Settles O32: HOLD_STORE, its grant, RELEASE_STORE and the expiry, each at its command's definition. -/
theorem masterHoldServed : Obligations.MasterHoldServed := by
  intro s r m ended
  have endHold : s.endHold = ended := s.endHold_eq
  refine ⟨fun serves => ⟨fun held => ?_, fun free => ?_⟩, fun grant requested serving head => ?_,
    fun serves => ⟨fun held => ?_, fun free => ?_⟩, fun held running => ⟨fun serving => ?_, fun between => ?_⟩⟩
  · rw [exec_holdStore serves, if_pos held]
    rfl
  · rw [exec_holdStore serves, if_neg free]
  · change execHoldGrant s = _
    unfold execHoldGrant
    rw [if_pos ⟨grant, requested⟩]
    exact congrArg _ (State.answerHold_serving serving head)
  · refine (exec_serves (rule := releaseStoreRule) serves rfl).trans ?_
    simp only [releaseStoreRule, held, if_true, endHold]
    rfl
  · refine (exec_serves (rule := releaseStoreRule) serves rfl).trans ?_
    simp only [releaseStoreRule, free, if_false]
    rfl
  · change execHoldTimerExpiry s = _
    simp only [execHoldTimerExpiry, held, Option.isSome_iff_ne_none.2 running, serving, and_self, if_true]
  · change execHoldTimerExpiry s = _
    have revoked : s.revokeHold =
        { ended with events := { s.events with pendingSet := s.events.pendingSet ||| 4096#17 } } := by
      rw [State.revokeHold, endHold]
      rfl
    simp only [execHoldTimerExpiry, held, Option.isSome_iff_ne_none.2 running, and_self, if_true, revoked]
    cases engine : s.port.engine with
    | serving r' => exact absurd engine (between r')
    | idle => rfl
    | awaitingGrant r' => rfl

/-! ## The clock and the sweep -/

/-- A visit's expiry is due where the context holds a deadline that the clock has reached (R8, R12). -/
theorem State.reached_iff (s : State) (deadline : Option Nat) :
    s.reached deadline = true ↔ ∃ d, deadline = some d ∧ d ≤ s.clock := by
  cases deadline <;> simp [State.reached]

/-- A period boundary at the sweep, by its pass state (R11). -/
theorem Sweep.boundary_eq (w : Sweep) : w.boundary =
    if w.pass = .waiting then ⟨.passing, 0, w.urgent⟩ else ⟨.passing, w.cursor, true⟩ := by
  obtain ⟨pass, cursor, urgent⟩ := w
  cases pass <;> rfl

/-- The advance of a pass: handle 2047 completes it, and an urgent sweep begins the next one at once (R12). -/
theorem Sweep.advance_eq (w : Sweep) (passing : w.pass = .passing) : w.advance =
    if w.cursor.val = 2047 then ⟨(if w.urgent = true then .passing else .waiting : PassState), 0, false⟩
    else ⟨.passing, w.cursor + 1, w.urgent⟩ := by
  obtain ⟨pass, cursor, urgent⟩ := w
  obtain rfl : pass = .passing := passing
  have last : cursor = 2047 ↔ cursor.val = 2047 := Fin.ext_iff
  unfold Sweep.advance
  simp only [last]
  cases urgent <;> rfl

/-- A granted visit: the expiry taken at the cursor, and the cursor's advance (R12). -/
theorem exec_sweepVisit {s : State} (grant : s.arbiter = .granted .sweep) (passing : s.sweep.pass = .passing) :
    exec .sweepVisit s = .next
      { s.visit s.sweep.cursor with
        arbiter := .idle
        sweep := if s.sweep.cursor.val = 2047 then
            ⟨(if s.sweep.urgent = true then .passing else .waiting : PassState), 0, false⟩
          else ⟨.passing, s.sweep.cursor + 1, s.sweep.urgent⟩ }.conclude := by
  rw [← s.sweep.advance_eq passing]
  change execSweepVisit s = _
  unfold execSweepVisit
  rw [if_pos ⟨grant, passing⟩]

/-- The expiry that a visit takes where the deadline is reached, by the context's state (R13 to R16). -/
theorem State.visit_due {s : State} {h : Handle} (due : s.reached (s.ctx h).deadline = true) : s.visit h =
    match (s.ctx h).state with
    | .free => s
    | .carrying => s
    | .probation => (s.commit h Context.free).raiseRetired h .probationExpired
    | .idle => (s.commit h ((s.ctx h).toLinger s.lingerDeadline)).raiseRetired h .idleExpired
    | .parked => (s.commit h ((s.ctx h).toLinger s.lingerDeadline)).raiseRetired h .parkExpired
    | .linger =>
      if (s.ctx h).lingerOpen then s.commit h { s.ctx h with lingerOpen := false, deadline := none } else s := by
  unfold State.visit
  exact if_neg (by simp [due])

theorem State.visit_undue {s : State} {h : Handle} (undue : s.reached (s.ctx h).deadline = false) : s.visit h = s := by
  simp only [State.visit, undue, if_true]

/-- Settles O34: the boundary, and the visit by the state of the context at the cursor. -/
theorem clockAndSweep : Obligations.ClockAndSweep := by
  intro s
  refine ⟨fun running below => ?_, fun grant passing => ?_⟩
  · rw [← s.sweep.boundary_eq]
    change execPeriodBoundary s = _
    unfold execPeriodBoundary
    rw [if_pos ⟨running, below⟩]
  · intro h c due visited told lingering
    have visit (t : State) (taken : s.visit h = t) : visited t := taken ▸ exec_sweepVisit grant passing
    have reached : due → s.reached c.deadline = true := (s.reached_iff c.deadline).2
    refine ⟨fun undue => ?_, fun d away => ?_, fun d probation => ?_, fun d idle => ?_, fun d parked => ?_,
      fun d linger opened => ?_, fun d linger closed => ?_⟩
    · exact visit _ (State.visit_undue (Bool.eq_false_iff.2 fun r => undue ((s.reached_iff c.deadline).1 r)))
    · refine visit _ ((State.visit_due (reached d)).trans ?_)
      obtain free | carrying := away
      · simp only [show (s.ctx h).state = _ from free]
      · simp only [show (s.ctx h).state = _ from carrying]
    · refine visit _ ((State.visit_due (reached d)).trans ?_)
      simp only [show (s.ctx h).state = _ from probation]
      rfl
    · refine visit _ ((State.visit_due (reached d)).trans ?_)
      simp only [show (s.ctx h).state = _ from idle]
      rfl
    · refine visit _ ((State.visit_due (reached d)).trans ?_)
      simp only [show (s.ctx h).state = _ from parked]
      rfl
    · refine visit _ ((State.visit_due (reached d)).trans ?_)
      simp only [show (s.ctx h).state = _ from linger, show (s.ctx h).lingerOpen = _ from opened, if_true]
      rw [← linger]
    · refine visit _ ((State.visit_due (reached d)).trans ?_)
      simp only [show (s.ctx h).state = _ from linger, show (s.ctx h).lingerOpen = _ from closed, Bool.false_eq_true,
        if_false]

/-! ## CLEAR_VOYAGE -/

/-- A handle that is not listed reads the FREE values (R1). -/
theorem lookupContext_absent {h : Handle} {table : List (Handle × Context)} (absent : ∀ e ∈ table, e.1 ≠ h) :
    lookupContext table h = Context.free := by
  induction table with
  | nil => rfl
  | cons e rest ih =>
    obtain ⟨first, rest_absent⟩ := List.forall_mem_cons.1 absent
    exact (if_neg first).trans (ih rest_absent)

/-- A count of the listed records is the count over all handles, where the FREE values do not count. -/
theorem countP_table {table : List (Handle × Context)} (sorted : table.Pairwise (fun a b => a.1 < b.1))
    {p : Context → Bool} (free : p Context.free = false) :
    table.countP (fun e => p e.2) = handles.countP (fun h => p (lookupContext table h)) := by
  induction table with
  | nil => simp [lookupContext, free]
  | cons e rest ih =>
    obtain ⟨k, c⟩ := e
    obtain ⟨above, sorted⟩ := List.pairwise_cons.1 sorted
    have absent : lookupContext rest k = Context.free := lookupContext_absent fun e he => (above e he).ne'
    have listed : lookupContext ((k, c) :: rest) k = c := if_pos rfl
    have move := countP_update (f := fun h => p (lookupContext ((k, c) :: rest) h))
      (g := fun h => p (lookupContext rest h)) nodup_handles (mem_handles k)
      (fun h other => congrArg p (if_neg other.symm))
    simp only [absent, listed, free, Bool.toNat_false, Nat.add_zero] at move
    rw [move, ← ih sorted, List.countP_cons]
    cases p c <;> rfl

/-- What CLEAR_VOYAGE leaves (R27, R130, R173). -/
theorem State.clearVoyage_eq (s : State) :
    let darkened := decide (s.coverage.mode = .darkening)
    s.clearVoyage = { s with
      store := State.reset.store, migration := State.reset.migration
      coverage := if darkened then { s.coverage with mode := .dark } else s.coverage
      events := if darkened then
          { s.events with
            pendingSet := s.events.pendingSet ||| 2048#17
            details := { s.events.details with coverageMode := some .dark } }
        else s.events } := by
  by_cases darkening : s.coverage.mode = .darkening
  · simp only [State.clearVoyage, darkening, if_true, decide_true]
    rfl
  · simp only [State.clearVoyage, darkening, if_false, decide_false, Bool.false_eq_true]
    rfl

/-- Settles O52: the cleared state, and the two counts of the table as counts over all handles. -/
theorem voyageCleared : Obligations.VoyageCleared := by
  intro s r m wf serves count darkened
  have sorted : s.store.contexts.Pairwise (fun a b => a.1 < b.1) := by
    simp only [contextsWf, Bool.and_eq_true, decide_eq_true_eq] at wf
    exact wf.1
  have counted (p : Context → Bool) (free : p Context.free = false) :
      s.store.contexts.countP (fun e => p e.2) = count p := countP_table sorted free
  have freed : s.clearVoyage.store.freeCount = 2048 := by rw [s.clearVoyage_eq]; rfl
  refine (exec_serves (rule := clearVoyageRule) serves rfl).trans ?_
  simp only [clearVoyageRule, freed, counted (fun c => decide (c.state ≠ .free)) rfl,
    counted (fun c => decide (c.state = .linger)) rfl]
  rw [s.clearVoyage_eq]
  rfl

end Sys2Proof.Machine
end

section
/-! SUPPORT. The places of a DARK walk and the silence behind its cursor (`Migration.DarkWalks`), under each operation
on walks and orders (R161 to R164). -/

namespace Sys2Proof.Machine

/-- What a DARK walk leaves behind its cursor (R128, R161). -/
def Walk.Behind (w : Walk) (silent : Handle → Prop) : Prop :=
  w.kind = .dark → w.endMark = 0 ∧ ∀ h, h < w.cursor → silent h

/-- The part of `DarkInv` about the walks: a DARK walk stands in so many places, leaves no bearer behind its cursor,
and a walk is suspended by a FAILOVER walk alone. -/
structure Migration.DarkWalks (m : Migration) (places : Nat) (silent : Handle → Prop) : Prop where
  place : m.darkPlaces = places
  behind : ∀ w, m.walk = some w ∨ m.suspended = some w → w.Behind silent
  suspended : ∀ w, m.suspended = some w → w.kind ≠ .failover ∧ m.walk.map (·.kind) = some .failover

/-- The places that a walk of a kind adds to those of a DARK walk. -/
def WalkKind.darkPlace (k : WalkKind) : Nat := if k = .dark then 1 else 0

@[simp] theorem WalkKind.darkPlace_dark : WalkKind.dark.darkPlace = 1 := rfl

@[simp] theorem WalkKind.darkPlace_failover : WalkKind.failover.darkPlace = 0 := rfl

theorem WalkKind.darkPlace_other {k : WalkKind} (other : k ≠ .dark) : k.darkPlace = 0 := if_neg other

/-- A walk that starts has nothing behind it. -/
theorem Walk.behind_start (k : WalkKind) (silent : Handle → Prop) : (⟨k, 0, 0⟩ : Walk).Behind silent :=
  fun _ => ⟨rfl, fun h below => absurd below (Fin.not_lt_zero h)⟩

/-- A walk of another kind than DARK has nothing to leave. -/
theorem Walk.behind_other {w : Walk} (other : w.kind ≠ .dark) (silent : Handle → Prop) : w.Behind silent :=
  fun dark => absurd dark other

theorem Orders.set_dark (o : Orders) (k : WalkKind) (b : Bool) :
    (o.set k b).dark = if k = .dark then b else o.dark := by
  cases k <;> rfl

/-- The first order is one of those pending. -/
theorem Orders.first_dark {o : Orders} (first : o.first = some .dark) : o.dark = true := by
  unfold Orders.first at first
  grind

namespace Migration.DarkWalks

variable {m : Migration} {n : Nat} {silent : Handle → Prop}

/-- No walk is suspended where no FAILOVER walk is in progress. -/
theorem unsuspended (walks : m.DarkWalks n silent) (other : m.walk.map (·.kind) ≠ some .failover) :
    m.suspended = none :=
  Option.eq_none_iff_forall_ne_some.2 fun w h => other (walks.suspended w h).2

/-- A walk starts where none is in progress (R162). -/
theorem begin (walks : m.DarkWalks n silent) (stopped : m.walk = none) (k : WalkKind) :
    (m.begin k).DarkWalks (n + k.darkPlace) silent := by
  have free := walks.unsuspended (by simp [stopped])
  obtain rfl := walks.place
  refine ⟨?_, fun w h => ?_, by simp [Migration.begin, free]⟩
  · simp [darkPlaces, Migration.begin, stopped, free, WalkKind.darkPlace, Nat.add_comm]
  · obtain rfl : ⟨k, 0, 0⟩ = w := by simpa [Migration.begin, free] using h
    exact Walk.behind_start k silent

/-- An order joins the pending ones (R162). -/
theorem putOrder (walks : m.DarkWalks n silent) {k : WalkKind} (once : k = .dark → m.orders.dark = false) :
    { m with orders := m.orders.set k true }.DarkWalks (n + k.darkPlace) silent := by
  obtain rfl := walks.place
  refine ⟨?_, walks.behind, walks.suspended⟩
  by_cases dark : k = .dark
  · simp [darkPlaces, Orders.set_dark, dark, once dark]
  · simp [darkPlaces, Orders.set_dark, dark, WalkKind.darkPlace]

/-- The first order leaves the pending ones (R164). -/
theorem takeOrder (walks : m.DarkWalks n silent) {k : WalkKind} (first : m.orders.first = some k) :
    ∃ left, n = left + k.darkPlace ∧ { m with orders := m.orders.set k false }.DarkWalks left silent := by
  obtain rfl := walks.place
  refine ⟨_, ?_, rfl, walks.behind, walks.suspended⟩
  by_cases dark : k = .dark
  · subst dark
    simp [darkPlaces, Orders.set_dark, Orders.first_dark first]
  · simp [darkPlaces, Orders.set_dark, dark, WalkKind.darkPlace]

/-- The next walk is chosen in place of one that has ended: a DARK walk stands in as many places as without the ended
one (R164). -/
theorem next (place : { m with walk := none }.darkPlaces = n)
    (behind : ∀ w, m.suspended = some w → w.Behind silent) (held : Bool) : (m.next held).DarkWalks n silent := by
  unfold Migration.next
  split
  · rename_i w suspended
    refine ⟨by simpa [darkPlaces, suspended] using place, fun x h => ?_, by simp⟩
    obtain rfl : w = x := by simpa using h
    exact behind w suspended
  · rename_i free
    have stopped : { m with walk := none }.DarkWalks n silent := ⟨place, by simp [free], by simp [free]⟩
    split
    · exact stopped
    · split
      · rename_i k first
        obtain ⟨left, rfl, taken⟩ := stopped.takeOrder first
        exact taken.begin rfl k
      · exact stopped

/-- The next walk is chosen in place of a walk of another kind than DARK, or where none is in progress. -/
theorem next_other (walks : m.DarkWalks n silent) (other : m.walk.map (·.kind) ≠ some .dark) (held : Bool) :
    (m.next held).DarkWalks n silent :=
  .next (by simpa [darkPlaces, other] using walks.place) (fun w h => walks.behind w (.inr h)) held

/-- An order leaves a DARK walk in its places, and a DARK order puts it in one more: a FAILOVER order may suspend it
(R162, R166). -/
theorem order (walks : m.DarkWalks n silent) {k : WalkKind} (once : k = .dark → m.orders.dark = false) (held : Bool) :
    (m.order held k).DarkWalks (n + k.darkPlace) silent := by
  unfold Migration.order
  split
  · split
    · exact walks.putOrder once
    · exact walks.begin (by assumption) k
  · rename_i w walk
    split
    · rename_i failover
      subst failover
      split
      · rename_i going
        refine ⟨by simpa [darkPlaces, walk] using walks.place, ?_, fun x h => ⟨(walks.suspended x h).1, ?_⟩⟩
        · rintro x (h | h)
          · obtain rfl := Option.some.inj h
            exact Walk.behind_other (by simp [going]) silent
          · exact walks.behind x (.inr h)
        · simp [going]
      · rename_i going
        have free := walks.unsuspended (by simpa [walk] using going)
        refine ⟨by simpa [darkPlaces, Migration.begin, walk, free] using walks.place, ?_, ?_⟩
        · rintro x (h | h) <;> obtain rfl := Option.some.inj h
          · exact Walk.behind_start _ silent
          · exact walks.behind w (.inl walk)
        · rintro x h
          obtain rfl := Option.some.inj h
          exact ⟨going, rfl⟩
    · exact walks.putOrder once

/-- A suspended walk is DARK behind a withdrawal where it was and DARK walks are not withdrawn. -/
theorem filter_dark (o : Option Walk) (k : WalkKind) :
    (o.filter (fun w => w.kind ≠ k)).map (·.kind) = some .dark ↔ k ≠ .dark ∧ o.map (·.kind) = some .dark := by
  cases o with
  | none => simp
  | some w => by_cases same : w.kind = k <;> grind [Option.filter]

/-- A walk withdrawn wherever it stands leaves a DARK walk in its places, and in none where it is the DARK walk (R123,
R171). -/
theorem withdraw (walks : m.DarkWalks n silent) (k : WalkKind) (held : Bool) :
    (m.withdraw held k).DarkWalks (if k = .dark then 0 else n) silent := by
  have place := walks.place
  have kept : ∀ w, m.suspended.filter (fun w => w.kind ≠ k) = some w → m.suspended = some w := fun w h =>
    (Option.filter_eq_some_iff.1 h).1
  have behind : ∀ w, m.suspended.filter (fun w => w.kind ≠ k) = some w → w.Behind silent := fun w h =>
    walks.behind w (.inr (kept w h))
  have standing (walk : m.walk.map (·.kind) ≠ some k) : { m with
      orders := m.orders.set k false
      suspended := m.suspended.filter (fun w => w.kind ≠ k) }.DarkWalks (if k = WalkKind.dark then 0 else n)
      silent := by
    refine ⟨?_, fun w h => h.elim (walks.behind w ∘ .inl) (behind w), fun w h => walks.suspended w (kept w h)⟩
    simp only [darkPlaces, filter_dark, Orders.set_dark] at place ⊢
    by_cases dark : k = .dark
    · simp [dark, dark ▸ walk]
    · simpa [dark] using place
  unfold Migration.withdraw
  split
  · rename_i w walk
    split
    · rename_i same
      refine .next ?_ behind held
      simp only [darkPlaces, filter_dark, Orders.set_dark, walk] at place ⊢
      by_cases dark : k = .dark
      · simp [dark]
      · simpa [dark, same] using place
    · exact standing (by simpa [walk] using ‹_›)
  · exact standing (by simp [*])

end Migration.DarkWalks

end Sys2Proof.Machine
end

section
/-! SUPPORT. The operations of the Link Supervisor on a link slot, as what they are made of: a property of states that
each part keeps is kept by each operation (`State.LinkClosed`). -/

namespace Sys2Proof.Machine

/-- A property that stays where a link slot is replaced, an event is raised, or a slot joins the lost set. -/
structure State.LinkClosed (P : State → Prop) : Prop where
  setLink : ∀ {s : State} (i : LinkId) (l : LinkSlot), P s → P (s.setLink i l)
  raise : ∀ {s : State} (e : Event) (d : Details), P s → P (s.raise e d)
  joinLost : ∀ {s : State} (i : LinkId), P s → P (s.joinLost i)

namespace State.LinkClosed

variable {P : State → Prop} {s : State}

theorem demote (closed : State.LinkClosed P) (i : LinkId) (inv : P s) : P (s.demote i) :=
  closed.joinLost i (closed.setLink i _ inv)

theorem zoneChange (closed : State.LinkClosed P) (i : LinkId) (inv : P s) : P (s.zoneChange i) := by
  have rescan (l : LinkSlot) : P ((s.setLink i l).raiseLinkLost i) := closed.raise _ _ (closed.setLink i l inv)
  unfold State.zoneChange
  dsimp only
  split
  · exact inv
  · split
    · exact closed.setLink i _ inv
    · exact inv
  · split
    · split
      · split
        · exact closed.setLink i _ inv
        · exact rescan _
      · exact rescan _
    · exact inv
  · split
    · exact inv
    · exact closed.raise _ _ (closed.demote i inv)

/-- The LIVE profile's action on each of some link slots in turn (R149). -/
theorem zoneChanges (closed : State.LinkClosed P) (slots : List LinkId) (inv : P s) :
    P (slots.foldl State.zoneChange s) := by
  induction slots generalizing s with
  | nil => exact inv
  | cons i rest ih => exact ih (closed.zoneChange i inv)

theorem configureSlot (closed : State.LinkClosed P) (i : LinkId) (new : LinkSlot) (inv : P s) :
    P (s.configureSlot i new) := by
  have set := closed.setLink i new inv
  have again (l : LinkSlot) : P ((s.setLink i new).setLink i l) := closed.setLink i l set
  have left (l : LinkSlot) : P (((s.setLink i new).setLink i l).joinLost i) := closed.joinLost i (again l)
  unfold State.configureSlot
  dsimp only
  split
  · split
    · exact set
    · exact again _
  · repeat' split
    · exact again _
    · exact again _
    · exact set
  · repeat' split
    · exact again _
    · exact again _
    · exact set
  · repeat' split
    · exact left _
    · exact left _
    · exact set

theorem probeWeak (closed : State.LinkClosed P) (i : LinkId) (l : LinkSlot) (inv : P s) : P (s.probeWeak i l) := by
  unfold State.probeWeak
  dsimp only
  split
  · exact closed.raise _ _ (closed.demote i (closed.setLink i _ inv))
  · exact closed.setLink i _ inv

theorem probe (closed : State.LinkClosed P) (i : LinkId) (success : Bool) (quality operator : Nat) (inv : P s) :
    P (s.probe i success quality operator) := by
  unfold State.probe
  split
  · exact inv
  · unfold State.probeScan
    repeat' split
    · exact inv
    · exact closed.raise _ _ (closed.setLink i _ inv)
    · exact inv
    · exact closed.setLink i _ inv
  · unfold State.probeTrack
    dsimp only
    split
    · exact closed.setLink i _ inv
    · exact inv
  · unfold State.probeCarry
    dsimp only
    repeat' split
    · exact closed.setLink i _ inv
    · exact closed.probeWeak i _ inv
    · exact closed.probeWeak i _ inv

end State.LinkClosed

end Sys2Proof.Machine
end

section
/-! SUPPORT. The invariant of the DARK walk (`DarkInv`) under the shared operations: those that leave walks, mode and
closed bearers as they are (`State.KeepsDark`), and those that place, choose or withdraw a walk or change the mode. -/

namespace Sys2Proof.Machine

/-- `DarkInv` is about the walks, and about a part in DARK. -/
theorem darkInv_iff (s : State) : DarkInv s ↔
    s.migration.DarkWalks (if s.coverage.mode = .darkening then 1 else 0) (fun h => (s.ctx h).silent)
      ∧ (s.coverage.mode = .dark → ∀ h, (s.ctx h).silent) :=
  ⟨fun ⟨place, behind, dark, suspended⟩ => ⟨⟨place, behind, suspended⟩, dark⟩,
    fun ⟨⟨place, behind, suspended⟩, dark⟩ => ⟨place, behind, dark, suspended⟩⟩

/-- The walks, the orders and the mode stay as they are, and while no bearer is admitted (R125) no silent context gets
one: with it, everything that `DarkInv` reads is kept. -/
structure State.KeepsDark (s t : State) : Prop where
  mode : t.coverage.mode = s.coverage.mode
  walk : t.migration.walk = s.migration.walk
  suspended : t.migration.suspended = s.migration.suspended
  orders : t.migration.orders = s.migration.orders
  silent : s.coverage.mode.loudness = 0 → ∀ h, (s.ctx h).silent → (t.ctx h).silent

namespace State.KeepsDark

/-- A change that leaves the store, the coverage mode and the Migration Engine. -/
theorem of_same {s t : State} (store : t.store = s.store) (mode : t.coverage.mode = s.coverage.mode)
    (migration : t.migration = s.migration) : s.KeepsDark t where
  mode := mode
  walk := by rw [migration]
  suspended := by rw [migration]
  orders := by rw [migration]
  silent := fun _ h => by simp only [State.ctx, store, imp_self]

/-- A change of the Migration Engine and the events that leaves the walks and the orders. -/
theorem of_walks {s : State} {m : Migration} {e : EventSet} (walk : m.walk = s.migration.walk)
    (suspended : m.suspended = s.migration.suspended) (orders : m.orders = s.migration.orders) :
    s.KeepsDark { s with migration := m, events := e } := ⟨rfl, walk, suspended, orders, fun _ _ => id⟩

theorem refl (s : State) : s.KeepsDark s := .of_same rfl rfl rfl

theorem trans {s t u : State} (st : s.KeepsDark t) (tu : t.KeepsDark u) : s.KeepsDark u where
  mode := tu.mode.trans st.mode
  walk := tu.walk.trans st.walk
  suspended := tu.suspended.trans st.suspended
  orders := tu.orders.trans st.orders
  silent := fun quiet h silent => tu.silent (st.mode ▸ quiet) h (st.silent quiet h silent)

/-- A change of one kind made for each member of a list. -/
theorem foldl {α : Type} {f : State → α → State} (each : ∀ (t : State) (a : α), t.KeepsDark (f t a))
    (list : List α) (s : State) : s.KeepsDark (list.foldl f s) := by
  induction list generalizing s with
  | nil => exact .refl s
  | cons a rest ih => exact (each s a).trans (ih _)

/-- A context written, silent where the one before it was, unless the mode admits bearers. -/
theorem commit {s : State} {h : Handle} {c : Context}
    (silent : s.coverage.mode.loudness = 0 → (s.ctx h).silent → c.silent) : s.KeepsDark (s.commit h c) where
  mode := by rw [State.commit_frame]
  walk := by rw [State.commit_frame]
  suspended := by rw [State.commit_frame]
  orders := by rw [State.commit_frame]
  silent := fun quiet k before => by
    rw [State.ctx_commit]
    split
    · rename_i same
      exact silent quiet (same ▸ before)
    · exact before

end State.KeepsDark

theorem DarkInv.of_keeps {s t : State} (inv : DarkInv s) (keeps : s.KeepsDark t) : DarkInv t where
  place := by simpa only [Migration.darkPlaces, keeps.walk, keeps.suspended, keeps.orders, keeps.mode] using inv.place
  behind := fun w standing dark => by
    rw [keeps.walk, keeps.suspended] at standing
    have placed := inv.place
    have quiet : s.coverage.mode.loudness = 0 := by
      by_contra loud
      have mode : s.coverage.mode ≠ .darkening := fun h => loud (h ▸ rfl)
      obtain walk | suspended := standing <;> simp [Migration.darkPlaces, *] at placed
    obtain ⟨endMark, silent⟩ := inv.behind w standing dark
    exact ⟨endMark, fun h below => keeps.silent quiet h (silent h below)⟩
  dark := fun mode h => by
    rw [keeps.mode] at mode
    exact keeps.silent (mode ▸ rfl) h (inv.dark mode h)
  suspended := by simpa only [keeps.walk, keeps.suspended] using inv.suspended

namespace DarkInv

variable {s : State}

theorem walks (inv : DarkInv s) :
    s.migration.DarkWalks (if s.coverage.mode = .darkening then 1 else 0) (fun h => (s.ctx h).silent) :=
  ((darkInv_iff s).1 inv).1

/-- Other walks, with the DARK walk in its places. -/
theorem of_migration (inv : DarkInv s) {m : Migration}
    (walks : m.DarkWalks (if s.coverage.mode = .darkening then 1 else 0) (fun h => (s.ctx h).silent)) :
    DarkInv { s with migration := m } :=
  (darkInv_iff _).2 ⟨walks, inv.dark⟩

theorem raise (inv : DarkInv s) (e : Event) (d : Details) : DarkInv (s.raise e d) := inv.of_keeps (.of_same rfl rfl rfl)

/-! ## Walks and orders -/

theorem order (inv : DarkInv s) {k : WalkKind} (other : k ≠ .dark) : DarkInv (s.order k) :=
  inv.of_migration (by
    simpa [WalkKind.darkPlace_other other] using inv.walks.order (fun dark => absurd dark other) s.isHeld)

theorem orderUnpark (inv : DarkInv s) : DarkInv s.orderUnpark := by
  unfold State.orderUnpark
  split
  · exact inv.order (by decide)
  · exact inv

/-- The next walk in place of one of another kind than DARK. -/
theorem nextWalk (inv : DarkInv s) (other : s.migration.walk.map (·.kind) ≠ some .dark) : DarkInv s.nextWalk :=
  inv.of_migration (inv.walks.next_other other s.isHeld)

theorem dropShift (inv : DarkInv s) : DarkInv s.dropShift := by
  unfold State.dropShift
  split
  · exact inv
  · have cleared : { s.migration with shift := none, draining := none }.DarkWalks _ _ :=
      ⟨inv.walks.place, inv.walks.behind, inv.walks.suspended⟩
    exact (inv.of_migration (cleared.withdraw .shift s.isHeld)).raise _ _

theorem joinLost (inv : DarkInv s) (i : LinkId) : DarkInv (s.joinLost i) := by
  have marked : DarkInv { s with migration := { s.migration with lost := s.migration.lost.set i true } } :=
    inv.of_keeps (.of_walks rfl rfl rfl)
  have ordered := marked.order (k := .failover) (by decide)
  unfold State.joinLost
  dsimp only
  split
  · exact ordered.dropShift
  · exact ordered

theorem linkClosed : State.LinkClosed DarkInv where
  setLink _ _ inv := inv.of_keeps (.of_same rfl rfl rfl)
  raise _ _ inv := inv.raise _ _
  joinLost _ inv := inv.joinLost _

/-! ## Coverage and profiles -/

/-- A louder mode than DARK, with the DARK walk in its places. -/
theorem setMode {mode : Mode} (walks : s.migration.DarkWalks (if mode = .darkening then 1 else 0)
    (fun h => (s.ctx h).silent)) (loud : mode ≠ .dark) : DarkInv (s.setMode mode) :=
  (darkInv_iff _).2 ⟨walks, fun dark => absurd dark loud⟩

/-- DARKENING is entered with its walk (R122, R127). -/
theorem darken (inv : DarkInv s) (loud : s.coverage.mode ≠ .darkening) :
    DarkInv ((s.setMode .darkening).order .dark) := by
  have walks := inv.walks
  rw [if_neg loud] at walks
  have absent : s.migration.orders.dark = false := by
    have place := walks.place
    by_contra ordered
    simp [Migration.darkPlaces, ordered] at place
  exact (darkInv_iff _).2 ⟨walks.order (fun _ => absent) s.isHeld, fun dark => by cases dark⟩

/-- The DARK walk is cancelled with its mode (R123). -/
theorem lighten (inv : DarkInv s) {mode : Mode} (light : mode ≠ .darkening ∧ mode ≠ .dark) :
    DarkInv (s.cancelDark.setMode mode) :=
  setMode (by rw [if_neg light.1]; exact inv.walks.withdraw .dark s.isHeld) light.2

theorem recompute (inv : DarkInv s) : DarkInv s.recompute.1 := by
  have settled (loud : s.coverage.mode ≠ .darkening) {mode : Mode} (light : mode ≠ .darkening ∧ mode ≠ .dark) :
      DarkInv (s.setMode mode) := by
    have walks := inv.walks
    rw [if_neg loud] at walks
    exact setMode (by simpa [light.1] using walks) light.2
  unfold State.recompute
  split
  case h_1 | h_5 | h_9 | h_12 => exact inv
  case h_3 | h_6 => exact inv.darken (by simp [*])
  case h_7 | h_8 => exact inv.lighten (by decide)
  all_goals exact settled (by simp [*]) (by decide)

theorem handOver (inv : DarkInv s) : DarkInv s.handOver := linkClosed.zoneChanges slotIds inv.recompute

end DarkInv

/-- The end of a grace period changes the bank and raises at most its event. -/
theorem State.expireGrace_frame (s : State) :
    s.expireGrace = { s with bank := s.expireGrace.bank, events := s.expireGrace.events } := by
  unfold State.expireGrace
  split <;> rfl

/-- An exchange of roles changes the bank and raises at most GRACE_ENDED. -/
theorem State.exchangeRoles_frame (s : State) (i : ProfileId) :
    s.exchangeRoles i = { s with bank := (s.exchangeRoles i).bank, events := (s.exchangeRoles i).events } := by
  have ended (bank : Bank) (due : Prop) [Decidable due] : ∃ bank' events,
      (if due then { s with bank := bank }.expireGrace else { s with bank := bank })
        = { s with bank := bank', events := events } := by
    split
    · rw [State.expireGrace_frame]
      exact ⟨_, _, rfl⟩
    · exact ⟨_, _, rfl⟩
  have shape : ∃ bank events, s.exchangeRoles i = { s with bank := bank, events := events } := by
    unfold State.exchangeRoles
    dsimp only
    split
    · split
      · exact ended _ _
      · exact ended _ _
    · exact ended _ _
  obtain ⟨bank, events, h⟩ := shape
  rw [h]

end Sys2Proof.Machine
end

section
/-! SUPPORT. The invariant of the DARK walk under every rule of a request kind. -/

namespace Sys2Proof.Machine

/-! ## Silence under the operations on a context (R43) -/

namespace Context

variable {c : Context}

theorem renew_silent (d : Nat) (silent : c.silent) : (c.renew d).silent := by
  unfold Context.renew
  split <;> exact silent

/-- Closing bearers opens none. -/
theorem closing_silent {voiceOpen emergency dataOpen : Bool} (d : Nat) (voice : voiceOpen = false)
    (data : dataOpen = false) : (c.closing voiceOpen emergency dataOpen d).silent := by
  unfold closing
  dsimp only
  split <;> exact ⟨voice, data⟩

theorem closeBearer_silent (kind : BearerKind) (d : Nat) (silent : c.silent) : (c.closeBearer kind d).silent := by
  cases kind with
  | voice => exact closing_silent d rfl silent.2
  | data => exact closing_silent d silent.1 rfl

/-- Where no emergency voice bearer is kept, every bearer is closed (R47, R128). -/
theorem closeBearers_silent {keep : Bool} (d : Nat) (silent : keep = true → c.silent) :
    (c.closeBearers keep d).silent := by
  rw [closeBearers_eq]
  refine closing_silent d ?_ rfl
  cases keep with
  | false => rfl
  | true => simp [(silent rfl).1]

theorem meetCap_silent (d : Nat) (silent : c.silent) : (c.meetCap d).silent := by
  unfold Context.meetCap
  split
  · exact closeBearers_silent (c := { c with barred := true }) d fun _ => silent
  · exact silent

theorem setCap_silent (cap : Nat) (policy : Policy) (silent : c.silent) : (c.setCap cap policy).silent := by
  unfold Context.setCap
  dsimp only
  split <;> exact silent

theorem addedFlags_silent (kind : AllowanceKind) (silent : c.silent) : (c.addedFlags kind).silent := by
  cases kind <;> exact silent

theorem admitted_silent (s : State) (plan : Fin 8) (cap : Nat) (policy : Policy) (silent : c.silent) :
    (s.admitted c plan cap policy).silent := by
  unfold State.admitted
  dsimp only
  split <;> exact silent

theorem restore_silent (i : LinkId) (d : Nat) (silent : c.silent) : (c.restore i d).silent := by
  unfold Context.restore
  split <;> exact silent

/-- A context in no state for bearers is silent (R3, R43). -/
theorem silent_of_state (fields : c.fieldsOk = true) (carrying : c.state ≠ .carrying) (parked : c.state ≠ .parked) :
    c.silent := by
  cases state : c.state with
  | free =>
    obtain rfl : c = Context.free := by simpa [Context.fieldsOk, state] using fields
    exact ⟨rfl, rfl⟩
  | probation =>
    obtain ⟨-, -, -, voice, data, -⟩ := fieldsOk_probation state fields
    exact ⟨voice, data⟩
  | idle =>
    obtain ⟨-, -, -, -, -, voice, data⟩ := (fieldsOk_idle state).1 fields
    exact ⟨voice, data⟩
  | linger =>
    obtain ⟨-, -, -, -, voice, data⟩ := (fieldsOk_linger state).1 fields
    exact ⟨voice, data⟩
  | carrying => exact absurd state carrying
  | parked => exact absurd state parked

end Context

theorem Rated.apply_silent (r : Rated) {c : Context} (active : Bool) (d : Nat) (silent : c.silent) :
    (r.apply c active d).silent := by
  unfold Rated.apply
  dsimp only
  cases active <;> split
  · exact Context.meetCap_silent d silent
  · exact silent
  · exact Context.meetCap_silent d (Context.renew_silent d silent)
  · exact Context.renew_silent d silent

/-- A mode that admits a bearer is SERVE or QUIET (R125). -/
theorem Mode.loud_of_admitsBearer {mode : Mode} {kind : BearerKind} {emergency : Bool}
    (admits : mode.admitsBearer kind emergency = true) : mode.loudness ≠ 0 := by
  cases mode
  case serve | quiet => decide
  all_goals simp [Mode.admitsBearer] at admits

/-- An OPEN_BEARER that passes its checks has passed the coverage gate (R44, R125). -/
theorem openBearerRefusal_admits {s : State} {c : Context} {kind : BearerKind} {emergency : Bool}
    (passes : s.openBearerRefusal c kind emergency = none) : s.coverage.mode.loudness ≠ 0 := by
  unfold State.openBearerRefusal at passes
  split at passes
  case h_5 | h_6 =>
    split at passes
    · cases passes
    · rename_i admits
      exact Mode.loud_of_admitsBearer (eq_true_of_ne_false admits)
  all_goals cases passes

/-! ## The rules that write a context -/

section Rules

variable (q : Option Request) (b : List Byte) (s : State)

open State

theorem attachRule_keepsDark : s.KeepsDark (attachRule q b s).1 := by
  unfold attachRule
  repeat' split
  · exact .commit fun _ silent => Context.renew_silent _ silent
  · exact .refl s
  · exact .refl s
  · exact .commit fun _ _ => ⟨rfl, rfl⟩
  · exact .refl s

theorem lookupRule_keepsDark : s.KeepsDark (lookupRule q b s).1 := by
  unfold lookupRule
  repeat' split
  all_goals exact .refl s

theorem lookupHandleRule_keepsDark : s.KeepsDark (lookupHandleRule q b s).1 := by
  unfold lookupHandleRule
  repeat' split
  all_goals exact .refl s

/-- OPEN_BEARER opens a bearer where the gate admits it, so in no quiet mode (R125). -/
theorem openBearerRule_keepsDark : s.KeepsDark (openBearerRule q b s).1 := by
  unfold openBearerRule
  repeat' split
  · exact .refl s
  · rename_i passes
    exact .commit fun quiet => absurd quiet (openBearerRefusal_admits passes)
  · exact .refl s

theorem closeBearerRule_keepsDark : s.KeepsDark (closeBearerRule q b s).1 := by
  unfold closeBearerRule
  dsimp only
  repeat' split
  case isFalse => exact .commit fun _ silent => Context.closeBearer_silent _ _ silent
  all_goals exact .refl s

theorem retireContext_keepsDark (h : Handle) : s.KeepsDark (s.retireContext h) := by
  unfold State.retireContext
  split <;> exact .commit fun _ _ => ⟨rfl, rfl⟩

theorem detachRule_keepsDark : s.KeepsDark (detachRule q b s).1 := by
  unfold detachRule
  repeat' split
  · exact .refl s
  · exact (retireContext_keepsDark s _).trans (.of_same rfl rfl rfl)
  · exact .refl s

theorem retireRule_keepsDark : s.KeepsDark (retireRule q b s).1 := by
  unfold retireRule
  repeat' split
  case isFalse.isFalse => exact retireContext_keepsDark s _
  all_goals exact .refl s

theorem admitContextRule_keepsDark : s.KeepsDark (admitContextRule q b s).1 := by
  unfold admitContextRule
  repeat' split
  case isFalse.isFalse => exact .commit fun _ silent => Context.admitted_silent s _ _ _ silent
  all_goals exact .refl s

theorem refuseRule_keepsDark : s.KeepsDark (refuseRule q b s).1 := by
  unfold refuseRule
  repeat' split
  case isFalse.isFalse => exact .commit fun _ _ => ⟨rfl, rfl⟩
  all_goals exact .refl s

theorem nextProbationRule_keepsDark : s.KeepsDark (nextProbationRule q b s).1 := by
  unfold nextProbationRule
  repeat' split
  · exact .refl s
  · exact .commit fun _ => id
  · exact .refl s

theorem nextSettlementRule_keepsDark : s.KeepsDark (nextSettlementRule q b s).1 := by
  unfold nextSettlementRule
  repeat' split
  all_goals exact .refl s

theorem settleContextRule_keepsDark : s.KeepsDark (settleContextRule q b s).1 := by
  unfold settleContextRule
  repeat' split
  · exact .refl s
  · exact .commit fun _ _ => ⟨rfl, rfl⟩
  all_goals exact .refl s

theorem addAllowanceRule_keepsDark : s.KeepsDark (addAllowanceRule q b s).1 := by
  unfold addAllowanceRule
  dsimp only
  repeat' split
  case isFalse => exact .commit fun _ silent => Context.addedFlags_silent _ silent
  case isFalse => exact .commit fun _ silent => Context.addedFlags_silent _ silent
  all_goals exact .refl s

theorem removeAllowanceRule_keepsDark : s.KeepsDark (removeAllowanceRule q b s).1 := by
  unfold removeAllowanceRule
  dsimp only
  repeat' split
  · exact .refl s
  · exact .refl s
  · exact .commit fun _ => id
  · exact .refl s

theorem setCapRule_keepsDark : s.KeepsDark (setCapRule q b s).1 := by
  unfold setCapRule
  dsimp only
  repeat' split
  · exact .refl s
  · exact .commit fun _ silent => Context.setCap_silent _ _ silent
  · exact .refl s

theorem setPlanRule_keepsDark : s.KeepsDark (setPlanRule q b s).1 := by
  unfold setPlanRule
  dsimp only
  repeat' split
  · exact .refl s
  · exact .commit fun _ => id
  · exact .refl s

theorem reportUsageRule_keepsDark : s.KeepsDark (reportUsageRule q b s).1 := by
  have told (t : State) (e : Event) (d : Details) : t.KeepsDark (t.raise e d) := .of_same rfl rfl rfl
  unfold reportUsageRule
  split
  · rename_i h slot tag up down seconds
    dsimp only
    split
    · exact .refl s
    · generalize rate _ _ _ _ = r
      have spent : s.KeepsDark (r.tags.foldl (fun t tag => t.raiseSpent h tag)
          (s.commit h (r.apply (s.ctx h) (decide (0 < up ∨ 0 < down ∨ 0 < seconds)) s.idleDeadline))) :=
        (KeepsDark.commit fun _ silent => r.apply_silent _ _ silent).trans
          (.foldl (f := fun t tag => t.raiseSpent h tag) (fun t _ => told t _ _) _ _)
      dsimp only
      split
      · exact spent.trans (told _ _ _)
      · exact spent
  · exact .refl s

end Rules

/-! ## The rules beside the store -/

namespace DarkInv

variable {s : State}

theorem promote (inv : DarkInv s) (i : ProfileId) : DarkInv (s.promote i) := by
  have exchanged : DarkInv (s.exchangeRoles i) := by
    rw [s.exchangeRoles_frame]
    exact inv.of_keeps (.of_same rfl rfl rfl)
  exact exchanged.handOver

theorem stage (inv : DarkInv s) (i : ProfileId) : DarkInv (s.stage i) := by
  have freed : s.KeepsDark ((s.stagingFrees (s.bank.slots.get i).zone).foldl State.freeSlot s) :=
    .foldl (f := State.freeSlot) (fun _ _ => .of_same rfl rfl rfl) _ s
  unfold State.stage
  dsimp only
  split <;> exact inv.of_keeps (freed.trans (.of_same rfl rfl rfl))

theorem enterZone (inv : DarkInv s) (zone : Nat) : DarkInv (s.enterZone zone) := by
  have entered : DarkInv { s with bank := { s.bank with presentZone := zone } } :=
    inv.of_keeps (.of_same rfl rfl rfl)
  unfold State.enterZone
  dsimp only
  split
  · exact entered
  · exact entered.raise _ _
  · exact entered.promote _
  · exact entered.promote _
  · exact entered
  · exact entered

/-- The end of a hold: where no walk is in progress the next one is chosen (R26). -/
theorem endHold (inv : DarkInv s) : DarkInv s.endHold := by
  have ended : DarkInv { s with hold := ⟨.notHeld, none, false⟩ } := inv.of_keeps (.of_same rfl rfl rfl)
  unfold State.endHold
  dsimp only
  split
  · rename_i walk
    exact ended.nextWalk (by simp [walk])
  · exact ended

theorem revokeHold (inv : DarkInv s) : DarkInv s.revokeHold := inv.endHold.raise _ _

end DarkInv

section Rules

variable (q : Option Request) (b : List Byte) {s : State}

theorem setCeilingRule_darkInv (inv : DarkInv s) : DarkInv (setCeilingRule q b s).1 := by
  have set (c : Permit) : DarkInv { s with coverage := { s.coverage with ceiling := c } } :=
    inv.of_keeps (.of_same rfl rfl rfl)
  unfold setCeilingRule
  repeat' split
  · exact inv
  · exact (set _).recompute
  · exact inv

theorem stageProfileRule_darkInv (inv : DarkInv s) : DarkInv (stageProfileRule q b s).1 := by
  unfold stageProfileRule
  split
  · split
    · exact inv
    · dsimp only
      split
      · exact inv
      · split
        · exact (inv.stage _).promote _
        · exact inv.stage _
  · exact inv

theorem enterZoneRule_darkInv (inv : DarkInv s) : DarkInv (enterZoneRule q b s).1 := by
  unfold enterZoneRule
  split
  · exact inv.enterZone _
  · exact inv

theorem configureLinkRule_darkInv (inv : DarkInv s) : DarkInv (configureLinkRule q b s).1 := by
  unfold configureLinkRule
  split
  · exact DarkInv.linkClosed.configureSlot _ _ inv
  · exact inv

theorem probeResultRule_darkInv (inv : DarkInv s) : DarkInv (probeResultRule q b s).1 := by
  unfold probeResultRule
  split
  · split
    · exact inv
    · exact DarkInv.linkClosed.probe _ _ _ _ inv
  · split <;> exact inv

theorem openLinkRule_darkInv (inv : DarkInv s) : DarkInv (openLinkRule q b s).1 := by
  unfold openLinkRule
  dsimp only
  repeat' split
  · exact inv
  · exact inv
  · exact inv
  · exact (DarkInv.linkClosed.setLink _ _ inv).order (by decide)
  · exact DarkInv.linkClosed.setLink _ _ inv
  · exact inv

theorem closeLinkRule_darkInv (inv : DarkInv s) : DarkInv (closeLinkRule q b s).1 := by
  unfold closeLinkRule
  repeat' split
  · exact inv
  · exact DarkInv.linkClosed.demote _ inv
  · exact inv

theorem setRouteRule_darkInv (inv : DarkInv s) : DarkInv (setRouteRule q b s).1 := by
  have routed (t : RouteTable) : DarkInv { s with routes := t } := inv.of_keeps (.of_same rfl rfl rfl)
  unfold setRouteRule
  dsimp only
  repeat' split
  · exact (routed _).orderUnpark
  · exact inv
  · exact (routed _).orderUnpark
  · exact inv

theorem shiftRule_darkInv (inv : DarkInv s) : DarkInv (shiftRule q b s).1 := by
  have recorded (r : Option ShiftRecord) (i : Option LinkId) :
      DarkInv { s with migration := { s.migration with shift := r, draining := i } } :=
    inv.of_keeps (.of_walks rfl rfl rfl)
  unfold shiftRule
  repeat' split
  case isFalse => exact (recorded _ _).order (by decide)
  all_goals exact inv

theorem abortShiftRule_darkInv (inv : DarkInv s) : DarkInv (abortShiftRule q b s).1 := by
  unfold abortShiftRule
  repeat' split
  · exact inv
  · exact inv.dropShift
  · exact inv

theorem releaseStoreRule_darkInv (inv : DarkInv s) : DarkInv (releaseStoreRule q b s).1 := by
  unfold releaseStoreRule
  repeat' split
  · exact inv.endHold
  · exact inv
  · exact inv

/-- A part with no walk, no order and no bearer, in another mode than DARKENING: after reset and after
CLEAR_VOYAGE. -/
theorem DarkInv.of_cleared {t : State} (store : t.store = Store.cleared) (migration : t.migration = Migration.initial)
    (mode : t.coverage.mode ≠ .darkening) : DarkInv t where
  place := by simp [migration, mode, Migration.darkPlaces, Migration.initial]
  behind := by simp [migration, Migration.initial]
  dark := fun _ h => by
    rw [State.ctx, store]
    exact ⟨rfl, rfl⟩
  suspended := by simp [migration, Migration.initial]

theorem clearVoyageRule_darkInv (inv : DarkInv s) : DarkInv (clearVoyageRule q b s).1 := by
  obtain refused | cleared := clearVoyageRule_cases q b s
  · rwa [refused]
  · rw [cleared, s.clearVoyage_eq]
    refine .of_cleared rfl rfl ?_
    by_cases darkening : s.coverage.mode = .darkening <;> simp [darkening]

/-- START changes the run state and the links alone. -/
theorem startRule_keepsDark (s : State) : s.KeepsDark (startRule q b s).1 := by
  have dwells (t : State) (i : LinkId) : t.KeepsDark (t.startDwell i) := by
    unfold State.startDwell
    dsimp only
    split <;> exact .of_same rfl rfl rfl
  have running : s.KeepsDark { s with runState := .running } := .of_same rfl rfl rfl
  have started := running.trans (.foldl dwells slotIds _)
  unfold startRule
  repeat' split
  · exact .refl s
  · exact started
  · exact .refl s

/-- CONFIGURE_REQUESTER changes the port alone. -/
theorem configureRequesterRule_keepsDark (s : State) : s.KeepsDark (configureRequesterRule q b s).1 := by
  have sent (t : State) (a : Answer) : t.KeepsDark (t.send a) := .of_same rfl rfl rfl
  have dropped (r : RequesterId) (queue : List Message) : s.KeepsDark (s.disableQueue r queue) :=
    .foldl (f := fun t (m : Message) => t.send ⟨r, m.kind, m.tag, .disabled, []⟩) (fun t _ => sent t _) queue s
  unfold configureRequesterRule
  split
  · exact (dropped _ _).trans (.of_same rfl rfl rfl)
  · exact .refl s

/-- The kinds whose rule leaves the contexts, the coverage mode and the Migration Engine. -/
def Kind.leavesDark (k : Kind) : Bool :=
  [Kind.openProfile, .writeProfileHeader, .writeTariffRow, .writeCandidates, .readProfile, .discardProfile, .clearRoute,
    .readRoute, .setLimits, .readStatus, .readEvents, .setEventMask, .ackEvents].contains k

theorem rule_leavesDark {k : Kind} {rule : Option Request → List Byte → State → State × Reply}
    (ruled : k.rule = some rule) (leaves : k.leavesDark = true) (s : State) : s.KeepsDark (rule q b s).1 := by
  cases k
  case openProfile =>
    obtain rfl := Option.some.inj ruled
    unfold openProfileRule
    (repeat' split) <;> exact .of_same rfl rfl rfl
  case writeProfileHeader =>
    obtain rfl := Option.some.inj ruled
    unfold writeProfileHeaderRule
    (repeat' split) <;> exact .of_same rfl rfl rfl
  case writeTariffRow =>
    obtain rfl := Option.some.inj ruled
    unfold writeTariffRowRule
    (repeat' split) <;> exact .of_same rfl rfl rfl
  case writeCandidates =>
    obtain rfl := Option.some.inj ruled
    unfold writeCandidatesRule
    (repeat' split) <;> exact .of_same rfl rfl rfl
  case readProfile =>
    obtain rfl := Option.some.inj ruled
    unfold readProfileRule
    (repeat' split) <;> exact .of_same rfl rfl rfl
  case discardProfile =>
    obtain rfl := Option.some.inj ruled
    unfold discardProfileRule
    (repeat' split) <;> exact .of_same rfl rfl rfl
  case clearRoute =>
    obtain rfl := Option.some.inj ruled
    unfold clearRouteRule
    (repeat' split) <;> exact .of_same rfl rfl rfl
  case readRoute =>
    obtain rfl := Option.some.inj ruled
    unfold readRouteRule
    (repeat' split) <;> exact .of_same rfl rfl rfl
  case setLimits =>
    obtain rfl := Option.some.inj ruled
    unfold setLimitsRule
    (repeat' split) <;> exact .of_same rfl rfl rfl
  case readStatus =>
    obtain rfl := Option.some.inj ruled
    unfold readStatusRule
    (repeat' split) <;> exact .of_same rfl rfl rfl
  case readEvents =>
    obtain rfl := Option.some.inj ruled
    unfold readEventsRule
    (repeat' split) <;> exact .of_same rfl rfl rfl
  case setEventMask =>
    obtain rfl := Option.some.inj ruled
    unfold setEventMaskRule
    (repeat' split) <;> exact .of_same rfl rfl rfl
  case ackEvents =>
    obtain rfl := Option.some.inj ruled
    unfold ackEventsRule
    (repeat' split) <;> exact .of_same rfl rfl rfl
  all_goals exact absurd leaves (by decide)

/-- Every rule keeps the invariant of the DARK walk. -/
theorem rule_darkInv {k : Kind} {rule : Option Request → List Byte → State → State × Reply}
    (ruled : k.rule = some rule) (inv : DarkInv s) : DarkInv (rule q b s).1 := by
  cases leaves : k.leavesDark with
  | true => exact inv.of_keeps (rule_leavesDark q b ruled leaves s)
  | false =>
    cases k
    case holdStore => cases ruled
    all_goals obtain rfl := Option.some.inj ruled
    case attach => exact inv.of_keeps (attachRule_keepsDark q b s)
    case lookup => exact inv.of_keeps (lookupRule_keepsDark q b s)
    case lookupHandle => exact inv.of_keeps (lookupHandleRule_keepsDark q b s)
    case openBearer => exact inv.of_keeps (openBearerRule_keepsDark q b s)
    case closeBearer => exact inv.of_keeps (closeBearerRule_keepsDark q b s)
    case detach => exact inv.of_keeps (detachRule_keepsDark q b s)
    case retire => exact inv.of_keeps (retireRule_keepsDark q b s)
    case admitContext => exact inv.of_keeps (admitContextRule_keepsDark q b s)
    case refuse => exact inv.of_keeps (refuseRule_keepsDark q b s)
    case nextProbation => exact inv.of_keeps (nextProbationRule_keepsDark q b s)
    case nextSettlement => exact inv.of_keeps (nextSettlementRule_keepsDark q b s)
    case settleContext => exact inv.of_keeps (settleContextRule_keepsDark q b s)
    case addAllowance => exact inv.of_keeps (addAllowanceRule_keepsDark q b s)
    case removeAllowance => exact inv.of_keeps (removeAllowanceRule_keepsDark q b s)
    case setCap => exact inv.of_keeps (setCapRule_keepsDark q b s)
    case setPlan => exact inv.of_keeps (setPlanRule_keepsDark q b s)
    case reportUsage => exact inv.of_keeps (reportUsageRule_keepsDark q b s)
    case clearVoyage => exact clearVoyageRule_darkInv q b inv
    case releaseStore => exact releaseStoreRule_darkInv q b inv
    case stageProfile => exact stageProfileRule_darkInv q b inv
    case enterZone => exact enterZoneRule_darkInv q b inv
    case setCeiling => exact setCeilingRule_darkInv q b inv
    case configureLink => exact configureLinkRule_darkInv q b inv
    case probeResult => exact probeResultRule_darkInv q b inv
    case openLink => exact openLinkRule_darkInv q b inv
    case closeLink => exact closeLinkRule_darkInv q b inv
    case setRoute => exact setRouteRule_darkInv q b inv
    case shift => exact shiftRule_darkInv q b inv
    case abortShift => exact abortShiftRule_darkInv q b inv
    case start => exact inv.of_keeps (startRule_keepsDark q b s)
    case configureRequester => exact inv.of_keeps (configureRequesterRule_keepsDark q b s)
    all_goals exact absurd leaves (by decide)

end Rules

end Sys2Proof.Machine
end

section
/-! The invariant of the DARK walk under the sweep's visit, the walk steps and the ends of services and events, and so
under every step (O58). -/

namespace Sys2Proof.Machine

/-! ## The sweep's visit and the walk steps -/

/-- What lies below the next cursor, or below the end mark 0 where the cursor comes to it, is at or below the cursor. -/
theorem Handle.passed_cases {h cursor : Handle} (passed : h < cursor + 1 ∨ cursor + 1 = 0) :
    h < cursor ∨ h = cursor := by
  have next : (cursor + 1).val = (cursor.val + 1) % 2048 := Fin.val_add _ _
  simp only [Fin.lt_def, Fin.ext_iff, next] at passed ⊢
  have zero : (0 : Handle).val = 0 := rfl
  omega

namespace State

variable (s : State) (h : Handle)

/-- A context bound to another slot keeps its bearers (R165, R170). -/
theorem reroute_keepsDark (i : LinkId) : s.KeepsDark (s.commit h { s.ctx h with route := some i }) :=
  .commit fun _ => id

theorem visit_keepsDark : s.KeepsDark (s.visit h) := by
  unfold State.visit
  dsimp only
  split
  · exact .refl s
  · split
    · exact .refl s
    · exact .refl s
    · exact (KeepsDark.commit fun _ _ => ⟨rfl, rfl⟩).trans (.of_same rfl rfl rfl)
    · exact (KeepsDark.commit fun _ _ => ⟨rfl, rfl⟩).trans (.of_same rfl rfl rfl)
    · exact (KeepsDark.commit fun _ _ => ⟨rfl, rfl⟩).trans (.of_same rfl rfl rfl)
    · split
      · exact .commit fun _ => id
      · exact .refl s

theorem failoverWork_keepsDark : s.KeepsDark (s.failoverWork h) := by
  unfold State.failoverWork
  dsimp only
  split
  · split
    · split
      · exact s.reroute_keepsDark h _
      · exact (KeepsDark.commit (c := (s.ctx h).park _) fun _ => id).trans (.of_walks rfl rfl rfl)
    · exact .refl s
  all_goals exact .refl s

theorem unparkWork_keepsDark : s.KeepsDark (s.unparkWork h) := by
  unfold State.unparkWork
  dsimp only
  repeat' split
  · exact .commit fun _ silent => Context.restore_silent _ _ silent
  · exact .refl s
  · exact .refl s

theorem shiftWork_keepsDark : s.KeepsDark (s.shiftWork h) := by
  unfold State.shiftWork
  dsimp only
  repeat' split
  · exact .refl s
  · exact (s.reroute_keepsDark h _).trans (.of_walks rfl rfl rfl)
  · exact .refl s

theorem darkWork_keepsDark : s.KeepsDark (s.darkWork h) := by
  unfold State.darkWork
  split
  case h_1 | h_2 => exact .commit fun _ _ => Context.closeBearers_silent _ (by simp)
  all_goals exact .refl s

theorem work_keepsDark (k : WalkKind) : s.KeepsDark (k.work h s) := by
  cases k
  · exact s.failoverWork_keepsDark h
  · exact s.shiftWork_keepsDark h
  · exact s.unparkWork_keepsDark h
  · exact s.darkWork_keepsDark h

/-- The DARK step leaves no bearer at its handle (R128). -/
theorem darkWork_silent {s : State} (store : StoreInv s) (h : Handle) : ((s.darkWork h).ctx h).silent := by
  have fields := Context.fields_of_ok (store.contexts h)
  have written (c : Context) (silent : c.silent) : ((s.commit h c).ctx h).silent := by
    rwa [State.ctx_commit, if_pos rfl]
  unfold State.darkWork
  split
  case h_1 | h_2 => exact written _ (Context.closeBearers_silent _ (by simp))
  all_goals exact Context.silent_of_state fields (by simp [*]) (by simp [*])

end State

namespace DarkInv

variable {s : State}

/-- A walk's cursor advances: a DARK walk has left no bearer at the handle it passes (R163). -/
theorem advance (inv : DarkInv s) {w : Walk} (walk : s.migration.walk = some w)
    (here : w.kind = .dark → (s.ctx w.cursor).silent) :
    DarkInv { s with migration := { s.migration with walk := some { w with cursor := w.cursor + 1 } } } := by
  refine inv.of_migration ⟨?_, ?_, fun x h => ?_⟩
  · simpa [Migration.darkPlaces, walk] using inv.place
  · rintro x (h | h)
    · obtain rfl := Option.some.inj h
      intro dark
      obtain ⟨endMark, passed⟩ := inv.behind w (.inl walk) dark
      refine ⟨endMark, fun h below => ?_⟩
      obtain before | same := Handle.passed_cases (.inl below)
      · exact passed h before
      · exact same ▸ here dark
    · exact inv.walks.behind x (.inr h)
  · simpa [walk] using inv.suspended x h

/-- A walk of another kind than DARK is completed: the next one is chosen (R167, R168, R170). -/
theorem complete (inv : DarkInv s) {w : Walk} (walk : s.migration.walk = some w) (other : w.kind ≠ .dark) :
    DarkInv (w.kind.complete s) := by
  have ended {t : State} (keeps : s.KeepsDark t) : DarkInv t.nextWalk :=
    (inv.of_keeps keeps).nextWalk (by simpa [keeps.walk, walk] using other)
  cases kind : w.kind with
  | failover =>
    refine ended ?_
    dsimp only
    split <;> exact .of_walks rfl rfl rfl
  | shift => exact ended (.of_walks rfl rfl rfl)
  | unpark => exact ended (.refl s)
  | dark => exact absurd kind other

/-- The DARK walk is completed: it has left no bearer anywhere, and DARK is entered with no walk left of it (R129). -/
theorem darkComplete (inv : DarkInv s) {w : Walk} (walk : s.migration.walk = some w) (kind : w.kind = .dark)
    (here : (s.ctx w.cursor).silent) (ended : w.cursor + 1 = w.endMark) : DarkInv s.darkComplete := by
  obtain ⟨endMark, passed⟩ := inv.behind w (.inl walk) kind
  have silent : ∀ h, (s.ctx h).silent := fun h => by
    obtain before | same := Handle.passed_cases (h := h) (.inr (ended.trans endMark))
    · exact passed h before
    · exact same ▸ here
  have alone : { s.migration with walk := none }.darkPlaces = 0 := by
    have one : s.migration.darkPlaces ≤ 1 := by rw [inv.place]; split <;> decide
    simp only [Migration.darkPlaces, walk, kind, Option.map_some, Option.map_none, reduceCtorEq, if_true, if_false]
      at one ⊢
    omega
  exact (darkInv_iff _).2 ⟨.next alone (fun x h => inv.walks.behind x (.inr h)) s.isHeld, fun _ => silent⟩

/-- A walk step keeps the invariant of the DARK walk. -/
theorem walked (inv : DarkInv s) (store : StoreInv s) {w : Walk} (walk : s.migration.walk = some w) :
    DarkInv (s.walked w) := by
  have keeps := s.work_keepsDark w.cursor w.kind
  have worked := inv.of_keeps keeps
  have standing := keeps.walk.trans walk
  have here (kind : w.kind = .dark) : ((w.kind.work w.cursor s).ctx w.cursor).silent := by
    rw [kind]
    exact State.darkWork_silent store w.cursor
  unfold State.walked
  dsimp only
  split
  · rename_i ended
    by_cases kind : w.kind = .dark
    · have := worked.darkComplete standing kind (here kind) ended
      rw [kind] at this ⊢
      exact this
    · exact worked.complete standing kind
  · exact worked.advance standing here

/-! ## The ends of services and events -/

theorem conclude (inv : DarkInv s) : DarkInv s.conclude :=
  inv.of_keeps (.of_same (by rw [s.conclude_frame]) (by rw [s.conclude_frame]) (by rw [s.conclude_frame]))

theorem concluded {t : State} (inv : DarkInv s) (keeps : s.KeepsDark t) : DarkInv t.conclude :=
  (inv.of_keeps keeps).conclude

theorem takeDueExpiry (inv : DarkInv s) : DarkInv s.takeDueExpiry := by
  unfold State.takeDueExpiry
  split
  · exact inv.revokeHold
  · exact inv

theorem finish (inv : DarkInv s) (r : RequesterId) (m : Message) (reply : Reply) : DarkInv (s.finish r m reply) := by
  have granted : s.KeepsDark s.grantAtOnce :=
    .of_same (by rw [s.grantAtOnce_frame]) (by rw [s.grantAtOnce_frame]) (by rw [s.grantAtOnce_frame])
  have released (t : State) : t.KeepsDark (t.releaseEngine r) := by
    unfold State.releaseEngine
    dsimp only
    split <;> exact .of_same rfl rfl rfl
  have sent (a : Answer) : s.KeepsDark (s.grantAtOnce.send a) := granted.trans (.of_same rfl rfl rfl)
  exact (inv.of_keeps ((sent _).trans (released _))).takeDueExpiry.conclude

theorem answerHold (inv : DarkInv s) : DarkInv s.answerHold := by
  unfold State.answerHold
  repeat' split
  · exact inv.finish _ _ _
  all_goals exact inv.conclude

theorem arrive (inv : DarkInv s) (r : RequesterId) (m : Message) : DarkInv (s.arrive r m) := by
  unfold State.arrive
  dsimp only
  repeat' split
  all_goals exact inv.of_keeps (.of_same rfl rfl rfl)

/-! ## Commands -/

/-- Every command keeps the invariant of the DARK walk. -/
theorem taken {t : State} {c : Instr} (inv : DarkInv s) (store : StoreInv s) (taken : s.Taken c t) : DarkInv t := by
  induction taken with
  | reset => exact .of_cleared rfl rfl (by simp [State.initialized, State.reset])
  | skipped => exact inv
  | answered reply => exact inv.finish _ _ _
  | ruled ruled => exact (rule_darkInv _ _ ruled inv).finish _ _ _
  | lineInactive _ ih => exact ih.of_keeps (.of_same rfl rfl rfl)
  | holdRequested => exact inv.concluded (.of_same rfl rfl rfl)
  | holdGranted => exact answerHold (inv.of_keeps (.of_same rfl rfl rfl))
  | holdExpiring => exact inv.of_keeps (.of_same rfl rfl rfl)
  | holdExpired => exact inv.revokeHold.conclude
  | clocked => exact inv.concluded (.of_same rfl rfl rfl)
  | visited => exact inv.concluded ((s.visit_keepsDark _).trans (.of_same rfl rfl rfl))
  | walked walk => exact (inv.walked store walk).concluded (.of_same rfl rfl rfl)
  | arrived => exact (inv.arrive _ _).conclude
  | graceEnded =>
    refine inv.concluded ?_
    rw [s.expireGrace_frame]
    exact .of_same rfl rfl rfl
  | dwellEnded => exact (linkClosed.setLink _ _ inv).conclude
  | trackLost => exact (linkClosed.raise _ _ (linkClosed.setLink _ _ inv)).conclude
  | carryLapsed => exact (linkClosed.raise _ _ (linkClosed.demote _ inv)).conclude
  | quietEnded => exact inv.concluded (.of_same rfl rfl rfl)
  | released => exact inv.of_keeps (.of_same rfl rfl rfl)

end DarkInv

/-- Settles O58: an idle step moves timers alone, and every command keeps the DARK walk in its place and DARK silent. -/
theorem darkStaysDark : Obligations.DarkStaysDark := by
  intro s t store inv ran
  unfold step at ran
  split at ran
  · obtain rfl := Host.Outcome.next.inj ran
    exact inv.of_keeps (.of_same rfl rfl rfl)
  · rename_i rest _
    have queued : DarkInv { s with pending := rest } := inv.of_keeps (.of_same rfl rfl rfl)
    exact queued.taken (store.of_keeps ⟨rfl, rfl⟩) (exec_taken ran)

end Sys2Proof.Machine
end

section
/-! What the lifecycle requests of chapter 2 answer and write: attachment, lookups, bearers, retirement, admission, and
the two lifecycle queues (O16 to O23). -/

namespace Sys2Proof.Machine

/-- A request in service that has a rule ends with what its rule gives (R182). -/
theorem exec_ruled {s t : State} {r : RequesterId} {m : Message} {q : Request} {reply : Reply}
    {rule : Option Request → List Byte → State → State × Reply} (serves : s.Serves r m q)
    (command : exec q.kind.command s = .next (s.serve q.kind rule)) (done : rule (some q) m.body s = (t, reply)) :
    exec q.kind.command s = .next (t.finish r m reply) := by
  rw [exec_serves serves command, done]

/-! ## Attachment (R30, R31) -/

/-- What activity leaves of a context (R42). -/
theorem Context.renew_eq (c : Context) (d : Nat) :
    c.renew d = { c with deadline := if c.state = .idle then some d else c.deadline } := by
  unfold Context.renew
  split <;> rfl

/-- SERVE alone admits a new identity (R125). -/
theorem Mode.admitsNew_iff (mode : Mode) : mode.admitsNew = true ↔ mode = .serve := by cases mode <;> decide

theorem State.lowestFree_none {s : State} (used : ∀ h, (s.ctx h).state ≠ .free) : s.lowestFree = none :=
  searchHandle_none _ _ _ rfl fun h => by simpa using used h

theorem State.lowestFree_some {s : State} {h : Handle} (free : (s.ctx h).state = .free)
    (below : ∀ h', h' < h → (s.ctx h').state ≠ .free) : s.lowestFree = some h :=
  searchHandle_some _ _ _ rfl h (Nat.zero_le _) (by simpa using free) fun k lower => by simpa using below k lower

section Attach

variable {s : State} {i : Identity} (home : Nat) (cell : Fin 32) (b : List Byte)

theorem attachRule_indexed {h : Handle} (found : s.indexed i = some h) :
    attachRule (some (.attach i home cell)) b s =
      (s.commit h ({ s.ctx h with cell := cell }.renew s.idleDeadline),
        ⟨.ok, octets 2 h.val ++ octets 1 (s.ctx h).state.code ++ octets 1 1⟩) := by
  simp only [attachRule, found, Context.renew_state]
  rfl

theorem attachRule_gated (absent : s.indexed i = none) (mode : s.coverage.mode ≠ .serve) :
    attachRule (some (.attach i home cell)) b s = (s, s.gateRefusal) := by
  have gated : s.coverage.mode.admitsNew = false := by
    rwa [← Bool.not_eq_true, Mode.admitsNew_iff]
  simp only [attachRule, absent, gated, if_true]

theorem attachRule_new (absent : s.indexed i = none) (mode : s.coverage.mode = .serve) :
    attachRule (some (.attach i home cell)) b s =
      match s.lowestFree with
      | none => (s, .refusal .full)
      | some h => (s.commit h (newContext i home cell s.probationDeadline),
          ⟨.ok, octets 2 h.val ++ octets 1 1 ++ octets 1 0⟩) := by
  simp only [attachRule, absent, mode, Mode.admitsNew]
  rfl

end Attach

/-- Settles O16: the cell update, and the three outcomes of a new identity. -/
theorem attachServed : Obligations.AttachServed := by
  intro s r m i home cell serves
  refine ⟨fun h found => ?_, fun absent mode => ?_, fun absent mode used => ?_, fun h absent mode free below => ?_⟩
  · have done := attachRule_indexed home cell m.body found
    rw [Context.renew_eq] at done
    exact exec_ruled serves rfl done
  · exact exec_ruled serves rfl (attachRule_gated home cell m.body absent mode)
  · have done := attachRule_new home cell m.body absent mode
    rw [State.lowestFree_none used] at done
    exact exec_ruled serves rfl done
  · have done := attachRule_new home cell m.body absent mode
    rw [State.lowestFree_some free below] at done
    exact exec_ruled serves rfl done

/-! ## Lookups (R40, R41) -/

/-- Settles O17: each rule where the context is found, and where it is not. -/
theorem lookupsServed : Obligations.LookupsServed := by
  intro s r m fields
  refine ⟨fun i serves => ⟨fun h found => ?_, fun absent => ?_⟩, fun h serves => ⟨fun used => ?_, fun free => ?_⟩⟩
  · exact exec_ruled (rule := lookupRule) serves rfl (by simp only [lookupRule, found]; rfl)
  · exact exec_ruled (rule := lookupRule) serves rfl (by simp only [lookupRule, absent]; rfl)
  · exact exec_ruled (rule := lookupHandleRule) serves rfl (by simp only [lookupHandleRule, used, if_false]; rfl)
  · exact exec_ruled (rule := lookupHandleRule) serves rfl (by simp only [lookupHandleRule, free, if_true]; rfl)

/-! ## Bearers (R44 to R46) -/

/-- The coverage gate for a bearer (R125). -/
theorem Mode.admitsBearer_iff (mode : Mode) (kind : BearerKind) (emergency : Bool) :
    mode.admitsBearer kind emergency = true ↔
      mode = .serve ∨ (mode = .quiet ∧ kind = .voice ∧ emergency = true) := by
  cases mode <;> cases kind <;> simp [Mode.admitsBearer]

/-- OPEN_BEARER's checks on a routed context, in the order of R44. -/
theorem State.openBearerRefusal_routed {s : State} {c : Context} (routed : c.state = .idle ∨ c.state = .carrying)
    (kind : BearerKind) (emergency : Bool) : s.openBearerRefusal c kind emergency =
      if s.coverage.mode.admitsBearer kind emergency = false then some s.gateRefusal
      else if c.barred ∧ ¬(kind = .voice ∧ emergency = true) then some (.refusal .barred)
      else if c.bearerOpen kind then some (.refusal .wrongState)
      else if kind = .data ∧ emergency = true then some (.refusal .badField)
      else none := by
  obtain idle | carrying := routed
  · simp only [State.openBearerRefusal, idle]
  · simp only [State.openBearerRefusal, carrying]

/-- What a routed context becomes where its opened bearer leaves the flags and the voice record so: CARRYING, with no
deadline where it was IDLE (R45). -/
def Context.opening (c : Context) (voiceOpen emergency dataOpen : Bool) (record : Option VoiceRecord) : Context :=
  { c with
    voiceOpen := voiceOpen, voiceEmergency := emergency, dataOpen := dataOpen, voice := record
    state := .carrying, deadline := if c.state = .idle then none else c.deadline }

theorem Context.openBearer_routed {c : Context} (routed : c.state = .idle ∨ c.state = .carrying) (kind : BearerKind)
    (emergency : Bool) : c.openBearer kind emergency = match kind with
      | .voice => c.opening true emergency c.dataOpen (some ⟨0, 0, 0, emergency⟩)
      | .data => c.opening c.voiceOpen c.voiceEmergency true c.voice := by
  obtain idle | carrying := routed
  · cases kind <;> simp [Context.openBearer, Context.opening, idle]
  · cases kind <;> simp [Context.openBearer, Context.opening, carrying]

/-- What closing bearers leaves, as R46 gives it. -/
theorem Context.closing_eq (c : Context) (voiceOpen emergency dataOpen : Bool) (d : Nat) :
    c.closing voiceOpen emergency dataOpen d =
      let left := { c with voiceOpen := voiceOpen, voiceEmergency := emergency, dataOpen := dataOpen }
      if left.state = .carrying ∧ left.voiceOpen = false ∧ left.dataOpen = false then
        { left with state := .idle, deadline := some d }
      else left := by
  simp only [Context.closing, Context.anyBearer, Bool.or_eq_false_iff]

theorem openBearerRule_eq (s : State) (h : Handle) (kind : BearerKind) (emergency : Bool) (b : List Byte) :
    openBearerRule (some (.openBearer h kind emergency)) b s =
      match s.openBearerRefusal (s.ctx h) kind emergency with
      | some refusal => (s, refusal)
      | none => (s.commit h ((s.ctx h).openBearer kind emergency),
          .ok (bearerFields h ((s.ctx h).openBearer kind emergency))) := rfl

theorem closeBearerRule_taken {s : State} {h : Handle} {kind : BearerKind}
    (routed : (s.ctx h).state = .idle ∨ (s.ctx h).state = .carrying ∨ (s.ctx h).state = .parked)
    (opened : (s.ctx h).bearerOpen kind = true) (b : List Byte) :
    closeBearerRule (some (.closeBearer h kind)) b s =
      (s.commit h ((s.ctx h).closeBearer kind s.idleDeadline),
        .ok (bearerFields h ((s.ctx h).closeBearer kind s.idleDeadline))) := by
  obtain state | state | state := routed <;> simp [closeBearerRule, state, opened]

theorem openBearerRule_taken {s : State} {h : Handle} {kind : BearerKind} {emergency : Bool}
    (routed : (s.ctx h).state = .idle ∨ (s.ctx h).state = .carrying)
    (admits : s.coverage.mode.admitsBearer kind emergency = true)
    (allowed : (s.ctx h).barred = false ∨ (kind = .voice ∧ emergency = true))
    (closed : (s.ctx h).bearerOpen kind = false) (ranged : kind = .data → emergency = false) (b : List Byte) :
    openBearerRule (some (.openBearer h kind emergency)) b s =
      (s.commit h ((s.ctx h).openBearer kind emergency),
        .ok (bearerFields h ((s.ctx h).openBearer kind emergency))) := by
  have passes : s.openBearerRefusal (s.ctx h) kind emergency = none := by
    rw [State.openBearerRefusal_routed routed, if_neg (by simp [admits]), if_neg ?_, if_neg (by simp [closed]),
      if_neg fun both => by simp [ranged both.1] at both]
    rintro ⟨barred, ordinary⟩
    exact allowed.elim (fun unbarred => by simp [unbarred] at barred) ordinary
  rw [openBearerRule_eq, passes]

/-- Settles O18: the two openings pass the checks of R44, and the two closings are R46's. -/
theorem bearersServed : Obligations.BearersServed := by
  intro s r m h c answer opened closed
  refine ⟨fun emergency serves routed gate allowed free => ?_, fun serves routed mode unbarred free => ?_,
    fun serves routed isOpen => ?_, fun serves routed isOpen => ?_⟩
  · have admits : s.coverage.mode.admitsBearer .voice emergency = true :=
      (Mode.admitsBearer_iff _ _ _).2 (by simpa using gate)
    have done := openBearerRule_taken routed admits (allowed.imp_right fun e => ⟨rfl, e⟩) free (by simp) m.body
    rw [Context.openBearer_routed routed] at done
    exact exec_ruled serves rfl done
  · have admits : s.coverage.mode.admitsBearer .data false = true := (Mode.admitsBearer_iff _ _ _).2 (.inl mode)
    have done := openBearerRule_taken routed admits (.inl unbarred) free (fun _ => rfl) m.body
    rw [Context.openBearer_routed routed] at done
    exact exec_ruled serves rfl done
  · have done := closeBearerRule_taken (kind := .voice) routed isOpen m.body
    rw [Context.closeBearer_voice, Context.closing_eq] at done
    exact exec_ruled serves rfl done
  · have done := closeBearerRule_taken (kind := .data) routed isOpen m.body
    rw [Context.closeBearer_data, Context.closing_eq] at done
    exact exec_ruled serves rfl done

theorem openBearerRule_refused {s : State} {h : Handle} {kind : BearerKind} {emergency : Bool} {refusal : Reply}
    (refuses : s.openBearerRefusal (s.ctx h) kind emergency = some refusal) (b : List Byte) :
    openBearerRule (some (.openBearer h kind emergency)) b s = (s, refusal) := by
  rw [openBearerRule_eq, refuses]

/-- OPEN_BEARER's refusals of a context that is not routed (R29, R44). -/
theorem State.openBearerRefusal_unrouted (s : State) {c : Context} {status : Status}
    (refuses : (c.state = .free ∧ status = .noContext)
      ∨ ((c.state = .probation ∨ c.state = .linger) ∧ status = .wrongState)
      ∨ (c.state = .parked ∧ status = .noRoute)) (kind : BearerKind) (emergency : Bool) :
    s.openBearerRefusal c kind emergency = some (.refusal status) := by
  obtain ⟨state, rfl⟩ | ⟨state | state, rfl⟩ | ⟨state, rfl⟩ := refuses <;> simp only [State.openBearerRefusal, state]

/-- Settles O19: the checks of R44 in their order, and those of R46. -/
theorem bearersRefused : Obligations.BearersRefused := by
  intro s r m h kind c isOpen
  have standing : isOpen = c.bearerOpen kind := by cases kind <;> rfl
  refine ⟨?_, ?_⟩
  · intro emergency serves gate urgent refused
    have refusal {st : Status} {body : List Byte}
        (refuses : s.openBearerRefusal c kind emergency = some ⟨st, body⟩) : refused st body :=
      exec_ruled serves rfl (openBearerRule_refused refuses m.body)
    have gated : gate ↔ s.coverage.mode.admitsBearer kind emergency = true := (Mode.admitsBearer_iff _ _ _).symm
    refine ⟨fun free => ?_, fun wrong => ?_, fun parked => ?_, fun routed => ?_⟩
    · exact refusal (s.openBearerRefusal_unrouted (.inl ⟨free, rfl⟩) kind emergency)
    · exact refusal (s.openBearerRefusal_unrouted (.inr (.inl ⟨wrong, rfl⟩)) kind emergency)
    · exact refusal (s.openBearerRefusal_unrouted (.inr (.inr ⟨parked, rfl⟩)) kind emergency)
    · have checks := State.openBearerRefusal_routed (s := s) routed kind emergency
      refine ⟨fun closed => ?_, fun admits barred ordinary => ?_, fun admits allowed opened => ?_,
        fun admits unbarred closed data emergencyData => ?_⟩
      · rw [gated, Bool.not_eq_true] at closed
        exact refusal (checks.trans (if_pos closed))
      · rw [gated] at admits
        refine refusal (checks.trans ?_)
        rw [if_neg (by simp [admits]), if_pos ⟨barred, ordinary⟩]
        rfl
      · rw [gated] at admits
        refine refusal (checks.trans ?_)
        rw [if_neg (by simp [admits]), if_neg ?_, if_pos (standing ▸ opened)]
        · rfl
        · rintro ⟨barred, ordinary⟩
          exact allowed.elim (fun unbarred => by simp [unbarred] at barred) ordinary
      · rw [gated] at admits
        refine refusal (checks.trans ?_)
        rw [if_neg (by simp [admits]), if_neg (by simp [unbarred]), if_neg (by simp [← standing, closed]),
          if_pos ⟨data, emergencyData⟩]
        rfl
  · intro serves refused
    have refusal {st : Status} (done : closeBearerRule (some (.closeBearer h kind)) m.body s = (s, .refusal st)) :
        refused st := exec_ruled serves rfl done
    refine ⟨fun free => refusal ?_, fun used wrong => refusal ?_⟩
    · simp only [closeBearerRule, show (s.ctx h).state = _ from free, if_true]
    · have wrong : ((s.ctx h).state = .probation ∨ (s.ctx h).state = .linger) ∨ (s.ctx h).bearerOpen kind = false := by
        rwa [or_assoc, ← standing]
      unfold closeBearerRule
      dsimp only
      rw [if_neg used]
      split
      · rfl
      · rename_i routed
        exact if_pos (wrong.resolve_left routed)

/-! ## Retirement (R48 to R50) -/

/-- A request names a context by handle and identity (R29). -/
theorem State.namesContext_iff (s : State) (h : Handle) (i : Identity) :
    s.namesContext h i = true ↔ (s.ctx h).state ≠ .free ∧ (s.ctx h).identity = some i := by
  simp [State.namesContext]

theorem State.namesContext_false {s : State} {h : Handle} {i : Identity}
    (unnamed : (s.ctx h).state = .free ∨ (s.ctx h).identity ≠ some i) : s.namesContext h i = false := by
  rw [← Bool.not_eq_true, State.namesContext_iff]
  tauto

theorem State.namesContext_true {s : State} {h : Handle} {i : Identity} {state : CtxState}
    (standing : (s.ctx h).state = state) (used : state ≠ .free) (named : (s.ctx h).identity = some i) :
    s.namesContext h i = true := (s.namesContext_iff h i).2 ⟨standing ▸ used, named⟩

/-- A context written reads back. -/
theorem State.ctx_commit_self (s : State) (h : Handle) (c : Context) : (s.commit h c).ctx h = c := by
  simp [State.ctx_commit]

/-- A PROBATION context retires to FREE (R48). -/
theorem State.retireContext_probation {s : State} {h : Handle} (new : (s.ctx h).state = .probation) :
    s.retireContext h = s.commit h Context.free := if_pos new

/-- An admitted context retires to LINGER (R48). -/
theorem State.retireContext_admitted {s : State} {h : Handle}
    (admitted : (s.ctx h).state = .idle ∨ (s.ctx h).state = .carrying ∨ (s.ctx h).state = .parked) :
    s.retireContext h = s.commit h ((s.ctx h).toLinger s.lingerDeadline) :=
  if_neg (by obtain state | state | state := admitted <;> simp [state])

theorem detachRule_eq {s : State} {i : Identity} {h : Handle} (found : s.indexed i = some h) {c : Context}
    (retires : s.retireContext h = s.commit h c) (b : List Byte) :
    detachRule (some (.detach i)) b s =
      ((s.commit h c).raiseRetired h .detached, .ok (octets 2 h.val ++ octets 1 c.state.code)) := by
  simp only [detachRule, found, retires, State.raiseRetired, State.ctx_raise, State.ctx_commit_self]
  rfl

theorem retireRule_linger {s : State} {i : Identity} {h : Handle} (linger : (s.ctx h).state = .linger)
    (named : (s.ctx h).identity = some i) (b : List Byte) :
    retireRule (some (.retire h i)) b s = (s, .refusal .wrongState) := by
  simp only [retireRule, State.namesContext_true linger (by decide) named, linger, Bool.true_eq_false, if_false,
    if_true]

theorem retireRule_eq {s : State} {i : Identity} {h : Handle} (named : s.namesContext h i = true)
    (present : (s.ctx h).state ≠ .linger) {c : Context} (retires : s.retireContext h = s.commit h c) (b : List Byte) :
    retireRule (some (.retire h i)) b s = (s.commit h c, .ok (octets 2 h.val ++ octets 1 c.state.code)) := by
  simp only [retireRule, named, present, retires, State.ctx_commit_self, Bool.true_eq_false, if_false]
  rfl

/-- Settles O20: what retires, by its state, and what each of the two requests makes of it. -/
theorem retirementServed : Obligations.RetirementServed := by
  intro s r m h c lingering told
  refine ⟨fun i serves => ⟨fun absent => ?_, fun found new => ?_, fun found admitted => ?_⟩,
    fun i serves => ⟨fun unnamed => ?_, fun linger named => ?_, fun new named => ?_, fun admitted named => ?_⟩⟩
  · exact exec_ruled (rule := detachRule) serves rfl (by simp only [detachRule, absent]; rfl)
  · exact exec_ruled serves rfl (detachRule_eq found (State.retireContext_probation new) m.body)
  · exact exec_ruled serves rfl (detachRule_eq found (State.retireContext_admitted admitted) m.body)
  · exact exec_ruled (rule := retireRule) serves rfl
      (by simp only [retireRule, State.namesContext_false unnamed, if_true]; rfl)
  · exact exec_ruled serves rfl (retireRule_linger linger named m.body)
  · have present : c.state ≠ .linger := by simp [new]
    exact exec_ruled serves rfl (retireRule_eq (State.namesContext_true new (by decide) named) present
      (State.retireContext_probation new) m.body)
  · have present : c.state ≠ .free ∧ c.state ≠ .linger := by
      obtain state | state | state := admitted <;> simp [state]
    exact exec_ruled serves rfl (retireRule_eq ((s.namesContext_iff h i).2 ⟨present.1, named⟩) present.2
      (State.retireContext_admitted admitted) m.body)

/-! ## Admission (R36, R37) and route selection (R156) -/

/-- The four conditions of route selection (R156). -/
theorem State.qualifies_iff (s : State) (i : LinkId) : s.qualifies i = true ↔
    (s.link i).state = .carry ∧ s.live.eligible.get i = true ∧ s.migration.lost.get i = false
      ∧ s.migration.draining ≠ some i := by
  simp [State.qualifies, State.eligible, State.isLost, and_assoc]

/-- The list that applies to a home is its own entry's, or the default (R152). -/
theorem RouteTable.applies_eq (t : RouteTable) (home : Nat) : t.applies home =
    match t.homes.find? (fun e => e.1 = home) with
    | some e => e.2
    | none => t.default := by
  unfold RouteTable.applies RouteTable.own
  cases t.homes.find? (fun e => e.1 = home) <;> rfl

/-- ADMIT of a context in another state than PROBATION (R36). -/
theorem admitContextRule_wrongState {s : State} {h : Handle} {i : Identity} (used : (s.ctx h).state ≠ .free)
    (old : (s.ctx h).state ≠ .probation) (named : (s.ctx h).identity = some i) (plan : Fin 8) (cap : Nat)
    (policy : Policy) (b : List Byte) :
    admitContextRule (some (.admitContext h i plan cap policy)) b s = (s, .refusal .wrongState) := by
  simp only [admitContextRule, (s.namesContext_iff h i).2 ⟨used, named⟩, Bool.true_eq_false, if_false]
  exact if_pos old

theorem admitContextRule_eq {s : State} {h : Handle} {i : Identity} (new : (s.ctx h).state = .probation)
    (named : (s.ctx h).identity = some i) (plan : Fin 8) (cap : Nat) (policy : Policy) (b : List Byte) :
    admitContextRule (some (.admitContext h i plan cap policy)) b s =
      (s.commit h (s.admitted (s.ctx h) plan cap policy),
        .ok (octets 2 h.val ++ octets 1 (s.admitted (s.ctx h) plan cap policy).state.code
          ++ optSlot (s.admitted (s.ctx h) plan cap policy).route
          ++ octets 4 ((s.admitted (s.ctx h) plan cap policy).deadline.getD 0))) := by
  simp only [admitContextRule, State.namesContext_true new (by decide) named, new, Bool.true_eq_false, if_false, ne_eq,
    not_true]
  rfl

/-- Settles O21: the refusals, the admission on the slot selected or in PARKED, and the selection as a search. -/
theorem admitServed : Obligations.AdmitServed := by
  refine ⟨fun s r m h i plan cap policy serves => ?_, fun s home => ?_⟩
  · intro c idle park
    refine ⟨fun unnamed => ?_, fun used old named => ?_, fun new named => ⟨fun slot selected => ?_, fun unrouted => ?_⟩⟩
    · exact exec_ruled (rule := admitContextRule) serves rfl
        (by simp only [admitContextRule, State.namesContext_false unnamed, if_true]; rfl)
    · exact exec_ruled serves rfl (admitContextRule_wrongState used old named plan cap policy m.body)
    · have done := admitContextRule_eq new named plan cap policy m.body
      simp only [State.admitted, show s.selectRoute (s.ctx h).home = _ from selected] at done
      refine (exec_ruled serves rfl done).trans ?_
      simp only [optSlot, optOctets, List.append_assoc]
      rfl
    · have done := admitContextRule_eq new named plan cap policy m.body
      simp only [State.admitted, show s.selectRoute (s.ctx h).home = _ from unrouted] at done
      exact exec_ruled serves rfl done
  · intro list takes
    have applies : s.routes.applies home = list := s.routes.applies_eq home
    have selects : s.selectRoute home = list.find? s.qualifies := by rw [← applies]; rfl
    have takes_iff (i : LinkId) : s.qualifies i = true ↔ takes i := s.qualifies_iff i
    refine ⟨?_, fun i => ?_⟩
    · rw [selects, List.find?_eq_none]
      simp only [takes_iff]
    · rw [selects, find?_first]
      simp only [takes_iff, ← Bool.not_eq_true]

/-! ## The two queues (R34, R38, R53, R54) -/

/-- REFUSE of a context in another state than PROBATION (R38). -/
theorem refuseRule_wrongState {s : State} {h : Handle} {i : Identity} (used : (s.ctx h).state ≠ .free)
    (old : (s.ctx h).state ≠ .probation) (named : (s.ctx h).identity = some i) (b : List Byte) :
    refuseRule (some (.refuse h i)) b s = (s, .refusal .wrongState) := by
  simp only [refuseRule, (s.namesContext_iff h i).2 ⟨used, named⟩, Bool.true_eq_false, if_false]
  exact if_pos old

theorem refuseRule_taken {s : State} {h : Handle} {i : Identity} (new : (s.ctx h).state = .probation)
    (named : (s.ctx h).identity = some i) (b : List Byte) :
    refuseRule (some (.refuse h i)) b s = (s.commit h Context.free, .ok (octets 2 h.val)) := by
  simp only [refuseRule, State.namesContext_true new (by decide) named, new, Bool.true_eq_false, if_false, ne_eq,
    not_true]
  rfl

/-- SETTLE of a context that still has something to report, or is not in LINGER (R54). -/
theorem settleContextRule_wrongState {s : State} {h : Handle} (used : (s.ctx h).state ≠ .free)
    (opened : (s.ctx h).state ≠ .linger ∨ (s.ctx h).lingerOpen = true) (b : List Byte) :
    settleContextRule (some (.settleContext h)) b s = (s, .refusal .wrongState) := by
  have unsettled : ¬((s.ctx h).state = .linger ∧ (s.ctx h).lingerOpen = false) := fun ⟨linger, closed⟩ =>
    opened.elim (fun other => other linger) (fun opened => by simp [closed] at opened)
  simp only [settleContextRule, used, unsettled, if_false]

/-- A context settled is one more that is FREE (R2, R54). -/
theorem settleContextRule_taken {s : State} {h : Handle} (linger : (s.ctx h).state = .linger)
    (closed : (s.ctx h).lingerOpen = false) (b : List Byte) :
    settleContextRule (some (.settleContext h)) b s =
      (s.commit h Context.free, .ok (octets 2 h.val ++ octets 2 (s.store.freeCount + 1))) := by
  have freed : (s.commit h Context.free).store.freeCount = s.store.freeCount + 1 := by
    rw [State.commit_store]
    change moveCount ((s.ctx h).state = .free) _ _ = _
    simp [linger, Context.free, moveCount]
  simp only [settleContextRule, linger, closed, freed, reduceCtorEq, and_self, if_false, if_true]
  rfl

/-- Settles O22: the two returns to FREE, and their refusals. -/
theorem refuseAndSettleServed : Obligations.RefuseAndSettleServed := by
  intro s r m h c freed
  refine ⟨fun i serves => ⟨fun unnamed => ?_, fun used old named => ?_, fun new named => ?_⟩,
    fun serves => ⟨fun free => ?_, fun used opened => ?_, fun linger closed => ?_⟩⟩
  · exact exec_ruled (rule := refuseRule) serves rfl
      (by simp only [refuseRule, State.namesContext_false unnamed, if_true]; rfl)
  · exact exec_ruled serves rfl (refuseRule_wrongState used old named m.body)
  · exact exec_ruled serves rfl (refuseRule_taken new named m.body)
  · exact exec_ruled (rule := settleContextRule) serves rfl (if_pos free)
  · exact exec_ruled serves rfl (settleContextRule_wrongState used opened m.body)
  · exact exec_ruled serves rfl (settleContextRule_taken linger closed m.body)

/-- Settles O23: the first unhanded entry as a search of the queue, and the entry skip places behind the head. -/
theorem queueReportsServed : Obligations.QueueReportsServed := by
  intro s r m
  refine ⟨fun serves => ⟨fun handed => ?_, ?_⟩, fun skip serves => ⟨fun short => ?_, ?_⟩⟩
  · have none : s.firstUnhanded = none := by simpa [State.firstUnhanded] using handed
    exact exec_ruled (rule := nextProbationRule) serves rfl (by simp only [nextProbationRule, none]; rfl)
  · intro before h after queue handed unhanded c
    have first : s.firstUnhanded = some h :=
      (find?_first _ _ _).2 ⟨by simp [unhanded], before, after, queue, fun k hk => by simp [handed k hk]⟩
    exact exec_ruled (rule := nextProbationRule) serves rfl (by simp only [nextProbationRule, first]; rfl)
  · have none : s.store.settlement[skip]? = none := List.getElem?_eq_none short
    exact exec_ruled (rule := nextSettlementRule) serves rfl (by simp only [nextSettlementRule, none])
  · intro h entry c
    have done : nextSettlementRule (some (.nextSettlement skip)) m.body s =
        (s, .ok (settlementFields h s.store.settlement.length c)) := by
      simp only [nextSettlementRule, entry]
      rfl
    refine (exec_ruled serves rfl done).trans ?_
    simp only [settlementFields, listOctets, List.append_assoc]
    rfl

end Sys2Proof.Machine
end

section
/-! What a draw leaves of an allowance list, and what the four requests on a context's terms answer and write (O24 to
O27). -/

namespace Sys2Proof.Machine

/-! ## Draws (R57, R58) -/

/-- A draw on balances above zero, entry by entry: one of another kind is passed over, one that the amount covers leaves
whole, and one above what is still to be drawn absorbs it and ends the draw. -/
inductive Draws (kind : AllowanceKind) : Nat → List Allowance → Drawn → Prop
  | nil (amount : Nat) : Draws kind amount [] ⟨[], amount, []⟩
  | other {amount : Nat} {a : Allowance} {rest : List Allowance} {d : Drawn} (other : a.kind ≠ kind)
      (behind : Draws kind amount rest d) : Draws kind amount (a :: rest) { d with allowances := a :: d.allowances }
  | whole {amount : Nat} {a : Allowance} {rest : List Allowance} {d : Drawn} (same : a.kind = kind)
      (covered : a.balance ≤ amount) (behind : Draws kind (amount - a.balance) rest d) :
      Draws kind amount (a :: rest) { d with tags := a.tag :: d.tags }
  | part {amount : Nat} {a : Allowance} {rest : List Allowance} (same : a.kind = kind) (above : amount < a.balance) :
      Draws kind amount (a :: rest) ⟨{ a with balance := a.balance - amount } :: rest, 0, []⟩

theorem draw_other {kind : AllowanceKind} {a : Allowance} (other : a.kind ≠ kind) (amount : Nat)
    (rest : List Allowance) : draw kind amount (a :: rest) =
      { draw kind amount rest with allowances := a :: (draw kind amount rest).allowances } := by
  simp only [draw, other, false_and, if_false]

theorem draw_whole {kind : AllowanceKind} {a : Allowance} {amount : Nat} (same : a.kind = kind) (held : 0 < a.balance)
    (covered : a.balance ≤ amount) (rest : List Allowance) : draw kind amount (a :: rest) =
      { draw kind (amount - a.balance) rest with tags := a.tag :: (draw kind (amount - a.balance) rest).tags } := by
  simp only [draw, same, held.trans_le covered, min_eq_left covered, Nat.sub_self, and_self, if_true]

theorem draw_part {kind : AllowanceKind} {a : Allowance} {amount : Nat} (same : a.kind = kind)
    (above : amount < a.balance) (rest : List Allowance) : draw kind amount (a :: rest) =
      ⟨{ a with balance := a.balance - amount } :: rest, 0, []⟩ := by
  obtain rfl | some := amount.eq_zero_or_pos
  · exact draw_zero kind _
  · simp only [draw, same, some, min_eq_right above.le, Nat.sub_self, Nat.sub_ne_zero_of_lt above, draw_zero, and_self,
      if_true, if_false]

theorem draw_draws (kind : AllowanceKind) (list : List Allowance) (amount : Nat) (held : ∀ a ∈ list, 0 < a.balance) :
    Draws kind amount list (draw kind amount list) := by
  induction list generalizing amount with
  | nil => exact .nil amount
  | cons a rest ih =>
    obtain ⟨first, behind⟩ := List.forall_mem_cons.1 held
    by_cases same : a.kind = kind
    · obtain covered | above := (Nat.lt_or_ge amount a.balance).symm
      · exact draw_whole same first covered rest ▸ .whole same covered (ih _ behind)
      · exact draw_part same above rest ▸ .part same above
    · exact draw_other same amount rest ▸ .other same (ih _ behind)

/-- The entries of the kind drawn: those gone, in list order, and those kept, of which the first may have lost a part. -/
structure DrawSplits (kind : AllowanceKind) (amount : Nat) (list : List Allowance) (d : Drawn)
    (gone kept : List Allowance) : Prop where
  entries : list.filter (fun a => a.kind = kind) = gone ++ kept
  tags : d.tags = gone.map (·.tag)
  within : (gone.map (·.balance)).sum ≤ amount
  allGone : kept = [] → d.rest = amount - (gone.map (·.balance)).sum
    ∧ d.allowances.filter (fun a => a.kind = kind) = []
  someKept : ∀ a others, kept = a :: others → d.rest = 0 ∧ amount - (gone.map (·.balance)).sum < a.balance
    ∧ d.allowances.filter (fun a => a.kind = kind)
        = { a with balance := a.balance - (amount - (gone.map (·.balance)).sum) } :: others

namespace Draws

variable {kind : AllowanceKind} {amount : Nat} {list : List Allowance} {d : Drawn}

theorem filter_others (draws : Draws kind amount list d) :
    d.allowances.filter (fun a => a.kind ≠ kind) = list.filter (fun a => a.kind ≠ kind) := by
  induction draws with
  | nil => rfl
  | other other _ ih => simpa [other] using ih
  | whole same _ _ ih => simpa [same] using ih
  | part same _ => simp [same]

/-- Every entry left keeps its kind, its tag and its place in the order (R57). -/
theorem order (draws : Draws kind amount list d) :
    (d.allowances.map (fun a => (a.kind, a.tag))).Sublist (list.map (fun a => (a.kind, a.tag))) := by
  induction draws with
  | nil => exact .slnil
  | other _ _ ih => exact ih.cons_cons _
  | whole _ _ _ ih => exact ih.cons _
  | part _ _ => exact .refl _

theorem splits (draws : Draws kind amount list d) : ∃ gone kept, DrawSplits kind amount list d gone kept := by
  induction draws with
  | nil amount => exact ⟨[], [], rfl, rfl, Nat.zero_le _, fun _ => ⟨rfl, rfl⟩, fun _ _ h => by cases h⟩
  | @other amount a rest d other _ ih =>
    obtain ⟨gone, kept, entries, tags, within, allGone, someKept⟩ := ih
    have passed (l : List Allowance) : (a :: l).filter (fun x => x.kind = kind) = l.filter (fun x => x.kind = kind) :=
      List.filter_cons_of_neg (by simp [other])
    exact ⟨gone, kept, (passed rest).trans entries, tags, within, passed d.allowances ▸ allGone,
      passed d.allowances ▸ someKept⟩
  | @whole amount a rest d same covered _ ih =>
    obtain ⟨gone, kept, entries, tags, within, allGone, someKept⟩ := ih
    have left : amount - ((a :: gone).map (·.balance)).sum = amount - a.balance - (gone.map (·.balance)).sum := by
      rw [List.map_cons, List.sum_cons, Nat.sub_sub]
    refine ⟨a :: gone, kept, by simp [same, entries], by simp [tags], ?_, left ▸ allGone, left ▸ someKept⟩
    rw [List.map_cons, List.sum_cons]
    omega
  | @part amount a rest same above =>
    refine ⟨[], a :: rest.filter (fun x => x.kind = kind), by simp [same], rfl, Nat.zero_le _, nofun, ?_⟩
    rintro _ _ ⟨⟩
    exact ⟨rfl, above, by simp [same]⟩

end Draws

/-- Settles O27: the draw entry by entry, the other kinds and the order by induction, and the kind drawn split. -/
theorem drawFollowsTheList : Obligations.DrawFollowsTheList := by
  intro kind amount list held d
  have draws : Draws kind amount list d := draw_draws kind list amount held
  obtain ⟨gone, kept, entries, tags, within, allGone, someKept⟩ := draws.splits
  exact ⟨draws.filter_others, draws.order, gone, kept, entries, tags, within, allGone, someKept⟩

/-! ## The checks of R59 -/

namespace Context

variable {c : Context}

theorem termsRefusal_free (free : c.state = .free) : c.termsRefusal = some .noContext := by
  simp only [termsRefusal, free]

theorem termsRefusal_wrongState (wrong : c.state = .probation ∨ (c.state = .linger ∧ c.lingerOpen = false)) :
    c.termsRefusal = some .wrongState := by
  obtain new | ⟨linger, closed⟩ := wrong
  · simp only [termsRefusal, new]
  · simp only [termsRefusal, linger, closed, Bool.false_eq_true, if_false]

theorem termsRefusal_none (taken : c.termsOpen) : c.termsRefusal = none := by
  obtain state | state | state | ⟨linger, opened⟩ := taken
  case inr.inr.inr => simp only [termsRefusal, linger, opened, if_true]
  all_goals simp only [termsRefusal, state]

end Context

/-- Settles O24: each of the four rules begins with the checks of R59. -/
theorem termsRefused : Obligations.TermsRefused := by
  intro s r m q h serves terms
  have refused {status : Status} (refusal : (s.ctx h).termsRefusal = some status) :
      exec q.kind.command s = .next (s.finish r m ⟨status, []⟩) := by
    obtain ⟨kind, amount, tag, rfl⟩ | ⟨tag, rfl⟩ | ⟨cap, policy, rfl⟩ | ⟨plan, rfl⟩ := terms
    · exact exec_ruled (rule := addAllowanceRule) serves rfl (by simp only [addAllowanceRule, refusal]; rfl)
    · exact exec_ruled (rule := removeAllowanceRule) serves rfl (by simp only [removeAllowanceRule, refusal]; rfl)
    · exact exec_ruled (rule := setCapRule) serves rfl (by simp only [setCapRule, refusal]; rfl)
    · exact exec_ruled (rule := setPlanRule) serves rfl (by simp only [setPlanRule, refusal]; rfl)
  exact ⟨fun free => refused (Context.termsRefusal_free free),
    fun wrong => refused (Context.termsRefusal_wrongState wrong)⟩

/-! ## Caps and plans (R65, R66) -/

theorem Context.setCap_eq (c : Context) (cap : Nat) (policy : Policy) : c.setCap cap policy = { c with
    cap := max cap c.overrun
    policy := policy
    barred := if c.overrun < max cap c.overrun then false else c.barred
    slow := if c.overrun < max cap c.overrun then false else c.slow } := by
  unfold Context.setCap
  dsimp only
  split <;> rfl

/-- Settles O26: the cap's new context field by field, and the plan's, behind the checks of R59. -/
theorem capAndPlanSet : Obligations.CapAndPlanSet := by
  refine ⟨fun s r m h cap policy serves taken => ?_, fun s r m h plan serves taken => ?_⟩
  · intro c applied c'
    have applies : (s.ctx h).setCap cap policy = c' := c.setCap_eq cap policy
    exact exec_ruled (rule := setCapRule) serves rfl
      (by simp only [setCapRule, Context.termsRefusal_none taken, applies]; rfl)
  · exact exec_ruled (rule := setPlanRule) serves rfl
      (by simp only [setPlanRule, Context.termsRefusal_none taken]; rfl)

/-! ## Allowances added and removed (R60 to R63) -/

section Tagged

variable {tag : Byte} {before after : List Allowance} {a : Allowance}

theorem findTag_none {list : List Allowance} (absent : ∀ a ∈ list, a.tag ≠ tag) : findTag tag list = none := by
  simpa [findTag] using absent

theorem findTag_first (earlier : ∀ b ∈ before, b.tag ≠ tag) (tagged : a.tag = tag) :
    findTag tag (before ++ a :: after) = some a :=
  (find?_first _ _ _).2 ⟨by simp [tagged], before, after, rfl, by simpa using earlier⟩

theorem findIdx_first (earlier : ∀ b ∈ before, b.tag ≠ tag) (tagged : a.tag = tag) :
    (before ++ a :: after).findIdx (fun x => x.tag = tag) = before.length := by
  have absent : before.findIdx (fun x => x.tag = tag) = before.length := by
    simpa [List.findIdx_eq_length] using earlier
  simp [List.findIdx_append, absent, List.findIdx_cons, tagged]

theorem topUp_absent {list : List Allowance} (absent : ∀ b ∈ list, b.tag ≠ tag) (balance : Nat) :
    topUp tag balance list = list :=
  (List.map_congr_left fun x member => if_neg (absent x member)).trans (List.map_id list)

theorem topUp_one (earlier : ∀ b ∈ before, b.tag ≠ tag) (tagged : a.tag = tag) (later : ∀ b ∈ after, b.tag ≠ tag)
    (balance : Nat) : topUp tag balance (before ++ a :: after) = before ++ { a with balance := balance } :: after := by
  have first := topUp_absent earlier balance
  have last := topUp_absent later balance
  unfold topUp at first last ⊢
  rw [List.map_append, List.map_cons, first, last, if_pos tagged]

theorem filter_one (earlier : ∀ b ∈ before, b.tag ≠ tag) (tagged : a.tag = tag) (later : ∀ b ∈ after, b.tag ≠ tag) :
    (before ++ a :: after).filter (fun x => x.tag ≠ tag) = before ++ after := by
  rw [List.filter_append, List.filter_cons_of_neg (by simp [tagged]), List.filter_eq_self.2 (by simpa using earlier),
    List.filter_eq_self.2 (by simpa using later)]

end Tagged

/-- Kind UNITS clears barred and slow (R62). -/
theorem Context.addedFlags_eq (c : Context) (kind : AllowanceKind) :
    c.addedFlags kind = if kind = .units then { c with barred := false, slow := false } else c := by
  cases kind <;> rfl

theorem Context.addedFlags_allowances (c : Context) (kind : AllowanceKind) :
    (c.addedFlags kind).allowances = c.allowances := by
  cases kind <;> rfl

section AddAllowance

variable {s : State} {h : Handle} {kind : AllowanceKind} {tag : Byte} {a : Allowance}

/-- ADD_ALLOWANCE where an entry has the tag (R60, R61). -/
theorem addAllowanceRule_held (terms : (s.ctx h).termsRefusal = none)
    (found : findTag tag (s.ctx h).allowances = some a) (amount : Nat) (b : List Byte) :
    addAllowanceRule (some (.addAllowance h kind amount tag)) b s =
      if a.kind ≠ kind then (s, .refusal .badField)
      else
        let balance := min (a.balance + amount) kind.maximum
        let c' := { s.ctx h with allowances := topUp tag balance (s.ctx h).allowances }.addedFlags kind
        (s.commit h c', .ok (addAllowanceFields h tag kind balance (balance - a.balance) c')) := by
  simp only [addAllowanceRule, terms, found]

/-- ADD_ALLOWANCE where no entry has the tag (R60, R61). -/
theorem addAllowanceRule_absent (terms : (s.ctx h).termsRefusal = none)
    (absent : findTag tag (s.ctx h).allowances = none) (amount : Nat) (b : List Byte) :
    addAllowanceRule (some (.addAllowance h kind amount tag)) b s =
      if Config.allowanceCount ≤ (s.ctx h).allowances.length then (s, .refusal .full)
      else
        let entry : Allowance := ⟨kind, amount, tag⟩
        let c' := { s.ctx h with allowances := (s.ctx h).allowances ++ [entry] }.addedFlags kind
        (s.commit h c', .ok (addAllowanceFields h tag kind amount amount c')) := by
  simp only [addAllowanceRule, terms, absent]

/-- The answer carries the position of the tag's entry (R61). -/
theorem addAllowanceFields_position {c : Context} {position : Nat}
    (stands : c.allowances.findIdx (fun a => a.tag = tag) = position) (balance added : Nat) :
    addAllowanceFields h tag kind balance added c = octets 2 h.val ++ octets 1 tag.toNat ++ octets 1 kind.code
      ++ octets 5 balance ++ octets 5 added ++ octets 1 position ++ octets 1 c.allowances.length
      ++ octets 1 (flagOctet c.barred) ++ octets 1 (flagOctet c.slow) := by
  subst stands
  rfl

end AddAllowance

section RemoveAllowance

variable {s : State} {h : Handle} {tag : Byte} {a : Allowance}

theorem removeAllowanceRule_held (terms : (s.ctx h).termsRefusal = none)
    (found : findTag tag (s.ctx h).allowances = some a) (b : List Byte) :
    removeAllowanceRule (some (.removeAllowance h tag)) b s =
      (s.commit h { s.ctx h with allowances := (s.ctx h).allowances.filter (fun x => x.tag ≠ tag) },
        .ok (octets 2 h.val ++ octets 1 tag.toNat ++ octets 1 a.kind.code ++ octets 5 a.balance
          ++ octets 1 ((s.ctx h).allowances.filter (fun x => x.tag ≠ tag)).length)) := by
  simp only [removeAllowanceRule, terms, found]
  rfl

theorem removeAllowanceRule_absent (terms : (s.ctx h).termsRefusal = none)
    (absent : findTag tag (s.ctx h).allowances = none) (b : List Byte) :
    removeAllowanceRule (some (.removeAllowance h tag)) b s = (s, .refusal .noEntry) := by
  simp only [removeAllowanceRule, terms, absent]

end RemoveAllowance

/-- Settles O25: the entry of the tag by where it stands in the list, and what the request makes of it. -/
theorem allowancesAddedAndRemoved : Obligations.AllowancesAddedAndRemoved := by
  refine ⟨fun s r m h kind amount tag serves taken => ?_, fun s r m h tag serves taken => ?_⟩
  · intro c maximum cleared answer
    have terms := Context.termsRefusal_none taken
    have limit : kind.maximum = maximum := by cases kind <;> rfl
    have clears (x : Context) : x.addedFlags kind = cleared x := x.addedFlags_eq kind
    have answers {list : List Allowance} {position : Nat} (balance added : Nat)
        (stands : list.findIdx (fun a => a.tag = tag) = position) :
        Reply.ok (addAllowanceFields h tag kind balance added ({ c with allowances := list }.addedFlags kind)) =
          answer (cleared { c with allowances := list }) balance added position := by
      rw [addAllowanceFields_position (position := position) (by rw [Context.addedFlags_allowances, stands]), clears]
      rfl
    refine ⟨fun before a after list earlier tagged => ?_, fun absent => ⟨fun full => ?_, fun room => ?_⟩⟩
    · have rule := addAllowanceRule_held (kind := kind) terms (list ▸ findTag_first earlier tagged) amount m.body
      refine ⟨fun other => exec_ruled serves rfl (rule.trans (if_pos other)), fun same later => ?_⟩
      intro balance c'
      have stands := findIdx_first (after := after) (a := { a with balance := balance }) earlier tagged
      refine exec_ruled serves rfl (rule.trans ((if_neg (not_not.2 same)).trans ?_))
      dsimp only
      rw [show (s.ctx h).allowances = _ from list, topUp_one earlier tagged later, limit]
      exact Prod.ext (congrArg (s.commit h) (clears _)) (answers _ _ stands)
    · exact exec_ruled serves rfl
        ((addAllowanceRule_absent terms (findTag_none absent) amount m.body).trans (if_pos full))
    · have stands := findIdx_first (after := []) (a := ⟨kind, amount, tag⟩) absent rfl
      refine exec_ruled serves rfl
        ((addAllowanceRule_absent terms (findTag_none absent) amount m.body).trans ((if_neg room.not_ge).trans ?_))
      exact Prod.ext (congrArg (s.commit h) (clears _)) (answers _ _ stands)
  · intro c
    have terms := Context.termsRefusal_none taken
    refine ⟨fun absent => ?_, fun before a after list tagged others => ?_⟩
    · exact exec_ruled serves rfl (removeAllowanceRule_absent terms (findTag_none absent) m.body)
    · obtain ⟨earlier, later⟩ := List.forall_mem_append.1 others
      have closed : (s.ctx h).allowances.filter (fun x => x.tag ≠ tag) = before ++ after := by
        rw [show (s.ctx h).allowances = _ from list, filter_one earlier tagged later]
      refine exec_ruled serves rfl
        ((removeAllowanceRule_held terms (list ▸ findTag_first earlier tagged) m.body).trans ?_)
      rw [closed, List.length_append]
      rfl

end Sys2Proof.Machine
end

section
/-! What the stages of a rating leave of a report, and what a voice record owes over the reports rated against it (O28,
O29). -/

namespace Sys2Proof.Machine

/-! ## Stages 1 and 2 (R79, R80) -/

/-- What is counted fills the blocks and the remainder, which is less than a block (R80). -/
theorem dataStage_counted {row : TariffRow} (size : 1 ≤ row.blockSize) (list : List Allowance)
    (remainder volume : Nat) :
    let d := dataStage row list remainder volume
    d.blocks * row.blockSize + d.remainder = remainder + (draw .octets volume list).rest
      ∧ d.remainder < row.blockSize := by
  refine ⟨Nat.add_sub_cancel' (Nat.div_mul_le_self _ _), ?_⟩
  dsimp only [dataStage]
  rw [← Nat.mod_eq_sub_div_mul]
  exact Nat.mod_lt _ size

/-! ## Stage 3 (R82 to R87) -/

/-- The increments that cover an elapsed count: the least number of them that holds it (R83). -/
theorem increments_le_iff {row : TariffRow} (increment : 1 ≤ row.increment) (elapsed j : Nat) :
    (elapsed + row.increment - 1) / row.increment ≤ j ↔ elapsed ≤ j * row.increment := by
  rw [← Nat.ceilDiv_eq_add_pred_div, ceilDiv_le_iff_le_smul increment, smul_eq_mul, Nat.mul_comm]

/-- What stage 3 leaves of a record: its money and fraction account for the priced seconds at their price and for the
fraction owed before (R83, R84, R87). -/
theorem rateVoice_owes (row : TariffRow) (list : List Allowance) (v : VoiceRecord) (seconds : Nat) :
    let stage := rateVoice row list v seconds
    let elapsed := min (v.elapsed + seconds) Config.maxVoice
    ∃ fraction, stage.record = some ⟨elapsed, max v.billed (billable row elapsed), fraction, v.emergency⟩
      ∧ fraction < 60 ∧ 60 * stage.money + fraction = stage.priced * stage.price + v.fraction :=
  ⟨_, congrArg some (congrArg (VoiceRecord.mk _ · _ _) (max_comm _ _)), Nat.mod_lt _ (by decide), Nat.div_add_mod _ _⟩

/-- What a voice stage draws: nothing on an emergency record, all of whose charge is priced at 0, and SECONDS on any
other (R85, R86). -/
theorem rateVoice_draws (row : TariffRow) (list : List Allowance) (v : VoiceRecord) (seconds : Nat) :
    let stage := rateVoice row list v seconds
    stage.absorbed + stage.priced = stage.charged
    ∧ (v.emergency = true →
        stage.allowances = list ∧ stage.tags = [] ∧ stage.price = 0 ∧ stage.priced = stage.charged)
    ∧ (v.emergency = false →
        let drawn := draw .seconds stage.charged list
        stage.allowances = drawn.allowances ∧ stage.tags = drawn.tags ∧ stage.price = row.voicePrice
          ∧ stage.priced = drawn.rest) := by
  obtain ⟨_, _, _, _ | _⟩ := v
  · exact ⟨Nat.sub_add_cancel (draw_rest_le _ _ _), nofun, fun _ => ⟨rfl, rfl, rfl, rfl⟩⟩
  · exact ⟨Nat.sub_add_cancel le_rfl, fun _ => ⟨rfl, rfl, rfl, rfl⟩, nofun⟩

/-! ## Stage 4 (R67, R89, R90) -/

theorem MoneyStage.meetsCap_iff (m : MoneyStage) (cap : Nat) :
    m.meetsCap cap = true ↔ 0 < m.writtenOff ∨ (0 < m.unpaid ∧ m.overrun = cap) := by
  simp [MoneyStage.meetsCap]

/-- What is above the cap is written off (R90). -/
theorem moneyStage_writtenOff (list : List Allowance) (overrun cap money : Nat) :
    (moneyStage list overrun cap money).writtenOff = overrun + (draw .units money list).rest - cap := by
  dsimp only [moneyStage]
  omega

/-! ## The stages and their composition -/

/-- Settles O28: each stage at its definition, and the composition by whether the report counts anything. -/
theorem ratingStages : Obligations.RatingStages := by
  intro row list size increment
  refine ⟨fun overrun cap money => ?_, fun c volume seconds held => ?_, fun remainder volume => ?_, fun seconds => ?_,
    fun record => ?_, fun record seconds spoken _ => ?_⟩
  · intro m drawn
    have within : drawn.rest ≤ money := draw_rest_le .units list money
    have writtenOff : m.writtenOff = overrun + drawn.rest - cap := moneyStage_writtenOff list overrun cap money
    refine ⟨rfl, rfl, rfl, rfl, Nat.sub_add_cancel within, rfl, writtenOff, fun headroom => ?_, m.meetsCap_iff cap⟩
    obtain ⟨paid, grown, -⟩ := moneyStage_balance list overrun cap money headroom
    change m.drawn + m.added + m.writtenOff = money at paid
    have taken : m.drawn + drawn.rest = money := Nat.sub_add_cancel within
    exact ⟨grown, by omega⟩
  · subst held
    refine ⟨fun counted => if_neg (by omega), fun still silent => ?_, rfl, rfl⟩
    have empty : (rate row c volume seconds).dataPart = emptyDataStage c.allowances c.remainder :=
      if_pos ⟨still, silent⟩
    simp only [empty, emptyDataStage, and_self]
  · obtain ⟨blocks, left⟩ := dataStage_counted size list remainder volume
    exact ⟨rfl, rfl, Nat.sub_add_cancel (draw_rest_le .octets list volume), blocks, left, rfl⟩
  · exact ⟨rfl, rfl, rfl, rfl, rfl, rfl, rfl, rfl⟩
  · exact ⟨rfl, rfl, rfl, rfl, rfl, rfl, rfl, rfl⟩
  · rw [show voiceStage row list (some record) seconds = rateVoice row list record seconds from if_neg spoken.ne']
    intro v elapsed
    obtain ⟨fraction, recorded, low, owes⟩ := rateVoice_owes row list record seconds
    obtain ⟨charged, emergency, ordinary⟩ := rateVoice_draws row list record seconds
    have least (j : Nat) := increments_le_iff increment elapsed j
    refine ⟨(elapsed + row.increment - 1) / row.increment, billable row elapsed, (least _).1 le_rfl,
      fun j => (least j).2, rfl, rfl, rfl, charged, ⟨fraction, recorded, low, owes⟩, emergency, ordinary⟩

/-- A voice stage on a record, rated or silent, accounts for what it prices and keeps the fraction below 60 (R88). -/
theorem voiceStage_owes (row : TariffRow) (list : List Allowance) (v : VoiceRecord) (seconds : Nat)
    (below : v.fraction < 60) :
    let stage := voiceStage row list (some v) seconds
    ∃ after, stage.record = some after ∧ after.fraction < 60
      ∧ 60 * stage.money + after.fraction = stage.priced * stage.price + v.fraction := by
  by_cases silent : seconds = 0
  · subst silent
    exact ⟨v, rfl, below, by simp [voiceStage]⟩
  · obtain ⟨fraction, recorded, low, owes⟩ := rateVoice_owes row list v seconds
    simp only [voiceStage, silent, if_false]
    exact ⟨_, recorded, low, owes⟩

/-- Over any reports from any record: sixty times the money charged and the fraction left are the priced seconds at
their prices and the fraction owed at the start (R88). -/
theorem voiceAccount_owes (reports : List (TariffRow × List Allowance × Nat)) (v : VoiceRecord)
    (below : v.fraction < 60) :
    let account := voiceAccount v reports
    60 * account.money + account.record.fraction = account.due + v.fraction ∧ account.record.fraction < 60 := by
  induction reports generalizing v with
  | nil => exact ⟨rfl, below⟩
  | cons report rest ih =>
    obtain ⟨row, list, seconds⟩ := report
    obtain ⟨after, recorded, low, owes⟩ := voiceStage_owes row list v seconds below
    obtain ⟨owed, fraction⟩ := ih after low
    simp only [voiceAccount, recorded, Option.getD_some]
    exact ⟨by omega, fraction⟩

/-- Settles O29: the account of a record that owes nothing at the start. -/
theorem voiceAccounted : Obligations.VoiceAccounted :=
  fun emergency reports => voiceAccount_owes reports ⟨0, 0, 0, emergency⟩ (Nat.zero_lt_succ 59)

end Sys2Proof.Machine
end

section
/-! What a usage report leaves of its context and of the events, what its answer carries, and where its money goes (O30,
O31). -/

namespace Sys2Proof.Machine

/-! ## Stage 0 (R76, R77) -/

theorem LinkKind.column_eq (kind : LinkKind) :
    kind.column = (if kind = .sat then .sat else .shore, decide (kind = .unused)) := by
  cases kind <;> rfl

theorem State.chooseProfile_live {s : State} {tag : Nat} (named : tag = 0 ∨ tag = s.live.zone) :
    s.chooseProfile tag = (s.liveSlot, false, false) := if_pos named

theorem State.chooseProfile_grace {s : State} {tag : Nat} {g : ProfileId} (known : tag ≠ 0) (left : tag ≠ s.live.zone)
    (present : s.slotIn .grace = some g) (named : (s.bank.slots.get g).zone = tag) :
    s.chooseProfile tag = (g, true, false) := by
  simp only [State.chooseProfile, known, left, or_self, if_false, present, named, if_true]

theorem State.chooseProfile_stale {s : State} {tag : Nat} (known : tag ≠ 0) (left : tag ≠ s.live.zone)
    (other : ∀ g, s.slotIn .grace = some g → (s.bank.slots.get g).zone ≠ tag) :
    s.chooseProfile tag = (s.liveSlot, false, true) := by
  unfold State.chooseProfile
  rw [if_neg (not_or.2 ⟨known, left⟩)]
  split
  · rename_i g present
    exact if_neg (other g present)
  · rfl

/-! ## The context charged (R67 to R69, R74, R75) -/

/-- The context as the stages and the report's activity leave it, before the policy. -/
def Rated.charge (r : Rated) (c : Context) (active : Bool) (idleDeadline : Nat) : Context :=
  { c with
    allowances := r.moneyPart.allowances
    remainder := r.dataPart.remainder
    voice := r.voicePart.record
    overrun := r.moneyPart.overrun
    deadline := if c.state = .idle ∧ active = true then some idleDeadline else c.deadline }

section Charged

variable (r : Rated) (c : Context) (active : Bool) (d : Nat)

/-- A rated report charges its context, and the policy follows where the cap is met. -/
theorem Rated.apply_eq : r.apply c active d =
    if r.moneyPart.meetsCap c.cap then (r.charge c active d).meetCap d else r.charge c active d := by
  cases active <;> simp [Rated.apply, Rated.charge, Context.renew_eq]

/-- The policy BAR: the bearers that are left, and IDLE for a CARRYING context left with none (R68). -/
theorem Context.meetCap_bar {c : Context} (policy : c.policy = .bar) (d : Nat) :
    let kept := c.voiceOpen && c.voiceEmergency
    c.meetCap d = { c with
      barred := true, voiceOpen := kept, voiceEmergency := kept, dataOpen := false
      state := if c.state = .carrying ∧ kept = false then .idle else c.state
      deadline := if c.state = .carrying ∧ kept = false then some d else c.deadline } := by
  simp only [Context.meetCap, policy, Context.closeBearers, Bool.true_and]
  split <;> rfl

theorem Context.meetCap_slow {c : Context} (policy : c.policy = .slow) (d : Nat) :
    c.meetCap d = { c with slow := true } := by
  simp only [Context.meetCap, policy]

/-- The policy leaves the account as the stages left it. -/
theorem Context.meetCap_account : (c.meetCap d).allowances = c.allowances ∧ (c.meetCap d).overrun = c.overrun
    ∧ (c.meetCap d).cap = c.cap := by
  cases policy : c.policy
  · simp only [Context.meetCap_bar policy, and_self]
  · simp only [Context.meetCap_slow policy, and_self]

theorem Rated.apply_account : (r.apply c active d).allowances = r.moneyPart.allowances
    ∧ (r.apply c active d).overrun = r.moneyPart.overrun ∧ (r.apply c active d).cap = c.cap := by
  rw [Rated.apply_eq]
  split
  · exact (r.charge c active d).meetCap_account d
  · exact ⟨rfl, rfl, rfl⟩

end Charged

/-! ## The events (R67, R93) -/

/-- The events of a taken report: each tag removed, and the cap where it is met. -/
def State.tellReport (s : State) (h : Handle) (tags : List Byte) (met : Bool) : State :=
  let t := tags.foldl (fun t tag => t.raiseSpent h tag) s
  if met then t.raiseCap h else t

theorem State.tellReport_eq (s : State) (h : Handle) (tags : List Byte) (met : Prop) [Decidable met] :
    s.tellReport h tags (decide met) = { s with events := { s.events with
      pendingSet := s.events.pendingSet ||| (if tags = [] then 0#17 else 2#17) ||| (if met then 4#17 else 0#17)
      details := { s.events.details with
        spentHandle := if tags = [] then s.events.details.spentHandle else h
        spentTag := tags.getLast?.getD s.events.details.spentTag
        capHandle := if met then h else s.events.details.capHandle } } } := by
  unfold State.tellReport
  rw [foldl_raiseSpent]
  by_cases reached : met <;> simp [reached, State.raiseCap, State.raise, Event.bit, Event.num]

theorem State.tellReport_beside (s : State) (h : Handle) (tags : List Byte) (met : Bool) :
    s.Beside (s.tellReport h tags met) := by
  have spent := State.Beside.foldl (f := fun t tag => t.raiseSpent h tag) (fun t _ => t.raise_beside _ _) tags s
  unfold State.tellReport
  dsimp only
  split
  · exact spent.trans (State.raise_beside _ _ _)
  · exact spent

/-! ## The request (R73, R92) -/

theorem Context.reportRefusal_none {c : Context} (taken : c.termsOpen) : c.reportRefusal = none := by
  obtain state | state | state | ⟨linger, opened⟩ := taken
  case inr.inr.inr => simp only [reportRefusal, linger, opened, if_true]
  all_goals simp only [reportRefusal, state]

theorem reportUsageRule_refused {s : State} {h : Handle} {reply : Reply}
    (refuses : (s.ctx h).reportRefusal = some reply) (slot : LinkId) (tag up down seconds : Nat) (b : List Byte) :
    reportUsageRule (some (.reportUsage h slot tag up down seconds)) b s = (s, reply) := by
  simp only [reportUsageRule, refuses]

/-- A report taken: rated by the row of stage 0, its context written, its events raised, and answered. -/
theorem reportUsageRule_taken {s : State} {h : Handle} {tag : Nat} {p : ProfileId} {grace stale : Bool}
    (taken : (s.ctx h).termsOpen) (chosen : s.chooseProfile tag = (p, grace, stale)) (slot : LinkId)
    (up down seconds : Nat) (b : List Byte) :
    let c := s.ctx h
    let column := if (s.link slot).kind = .sat then Column.sat else .shore
    let rated := rate ((s.bank.slots.get p).row c.plan column) c (up + down) seconds
    let c' := rated.apply c (decide (0 < up ∨ 0 < down ∨ 0 < seconds)) s.idleDeadline
    reportUsageRule (some (.reportUsage h slot tag up down seconds)) b s =
      ((s.commit h c').tellReport h rated.tags (rated.moneyPart.meetsCap c.cap),
        .ok (reportFields h c' grace (s.bank.slots.get p).zone column
          (stale || decide ((s.link slot).kind = .unused)) rated c.cap)) := by
  simp only [reportUsageRule, Context.reportRefusal_none taken, chosen, LinkKind.column_eq]
  rfl

theorem flagField_decide (p : Prop) [Decidable p] : flagField (decide p) = octets 1 (if p then 1 else 0) := by
  by_cases holds : p <;> simp [flagField, flagOctet, holds]

/-- Settles O30: the refusals of R73, and the report taken by the profile chosen, the cap met or not, and the policy. -/
theorem reportUsageServed : Obligations.ReportUsageServed := by
  intro s r m h slot tag up down seconds serves c told
  have refused {reply : Reply} (refuses : c.reportRefusal = some reply) :
      exec .reportUsage s = .next (s.finish r m reply) :=
    exec_ruled serves rfl (reportUsageRule_refused refuses slot tag up down seconds m.body)
  refine ⟨fun free => refused ?_, fun new => refused ?_, fun linger closed => refused ?_,
    fun taken p grace stale named => ?_⟩
  · simp only [Context.reportRefusal, free]; rfl
  · simp only [Context.reportRefusal, told, new]; rfl
  · simp only [Context.reportRefusal, told, linger, closed, Bool.false_eq_true, if_false]; rfl
  · intro column rated idle met charged kept c' tags t told d v money zone unnamed
    have chosen : s.chooseProfile tag = (p, grace, stale) := by
      obtain ⟨named, rfl, rfl, rfl⟩ | ⟨known, left, present, named, rfl, rfl⟩ | ⟨known, left, other, rfl, rfl, rfl⟩ :=
        named
      · exact State.chooseProfile_live named
      · exact State.chooseProfile_grace known left present named
      · exact State.chooseProfile_stale known left other
    have reached : rated.moneyPart.meetsCap c.cap = decide met :=
      Bool.eq_iff_iff.2 ((rated.moneyPart.meetsCap_iff c.cap).trans decide_eq_true_iff.symm)
    let active := decide (0 < up ∨ 0 < down ∨ 0 < seconds)
    have left : rated.apply c active s.idleDeadline = c' := by
      have before : rated.charge c active s.idleDeadline = charged := by
        simp only [Rated.charge, active, decide_eq_true_eq]
        rfl
      rw [Rated.apply_eq, reached, before]
      simp only [c', decide_eq_true_eq]
      split
      · split
        case h_1 policy => exact Context.meetCap_slow (c := charged) policy _
        case h_2 policy => exact Context.meetCap_bar (c := charged) policy _
      · rfl
    have done := reportUsageRule_taken taken chosen slot up down seconds m.body
    obtain ⟨allowances, overrun, cap⟩ := left ▸ rated.apply_account c active s.idleDeadline
    have identity : c'.identity = c.identity := left ▸ (rated.apply_same c active s.idleDeadline).1
    dsimp only at done
    rw [left, reached] at done
    refine exec_ruled serves rfl (done.trans (Prod.ext (State.tellReport_eq t h tags met) (congrArg Reply.ok ?_)))
    dsimp only [reportFields, listOctets]
    rw [allowances, overrun, cap, identity, reached, flagField_decide, ← List.append_assoc]
    rfl

/-! ## Where the money goes (R91) -/

/-- The balances of a kind, added up. -/
def heldOf (kind : AllowanceKind) (list : List Allowance) : Nat :=
  ((list.filter (fun a => a.kind = kind)).map (·.balance)).sum

theorem heldOf_cons (kind : AllowanceKind) (a : Allowance) (rest : List Allowance) :
    heldOf kind (a :: rest) = (if a.kind = kind then a.balance else 0) + heldOf kind rest := by
  by_cases same : a.kind = kind <;> simp [heldOf, same]

/-- A draw leaves what is held of every other kind. -/
theorem heldOf_draw_other {kind other : AllowanceKind} (differs : kind ≠ other) (list : List Allowance) (amount : Nat) :
    heldOf other (draw kind amount list).allowances = heldOf other list := by
  induction list generalizing amount with
  | nil => rfl
  | cons a rest ih =>
    unfold draw
    split
    · rename_i drawn
      have passed : a.kind ≠ other := drawn.1 ▸ differs
      dsimp only
      split <;> simp only [heldOf_cons, passed, if_false, Nat.zero_add, ih]
    · simp only [heldOf_cons, ih]

/-- What a draw takes from the balances of its kind is what it no longer has to draw (R58). -/
theorem heldOf_draw_same (kind : AllowanceKind) (list : List Allowance) (amount : Nat) :
    heldOf kind (draw kind amount list).allowances + amount = heldOf kind list + (draw kind amount list).rest := by
  induction list generalizing amount with
  | nil => rfl
  | cons a rest ih =>
    unfold draw
    split
    · rename_i drawn
      have behind := ih (amount - min a.balance amount)
      dsimp only
      split <;> simp only [heldOf_cons, drawn.1, if_true] <;> omega
    · have behind := ih amount
      simp only [heldOf_cons]
      omega

/-- Stage 3 draws no UNITS (R85, R86). -/
theorem voiceStage_units (row : TariffRow) (list : List Allowance) (record : Option VoiceRecord) (seconds : Nat) :
    heldOf .units (voiceStage row list record seconds).allowances = heldOf .units list := by
  unfold voiceStage
  split
  · rfl
  · rename_i v
    split
    · rfl
    · obtain ⟨-, emergency, ordinary⟩ := rateVoice_draws row list v seconds
      cases called : v.emergency
      · rw [(ordinary called).1, heldOf_draw_other (by decide)]
      · rw [(emergency called).1]

/-- Stage 4 takes from the UNITS what it draws (R89). -/
theorem moneyStage_units (list : List Allowance) (overrun cap money : Nat) :
    let m := moneyStage list overrun cap money
    heldOf .units m.allowances + m.drawn = heldOf .units list := by
  have drawn := heldOf_draw_same .units list money
  have within := draw_rest_le .units list money
  dsimp only [moneyStage]
  omega

/-- The UNITS that a rated report leaves, and the money it drew, are the UNITS it found (R89). -/
theorem rate_units (row : TariffRow) (c : Context) (volume seconds : Nat) :
    let money := (rate row c volume seconds).moneyPart
    heldOf .units money.allowances + money.drawn = heldOf .units c.allowances := by
  have data : heldOf .units (rate row c volume seconds).dataPart.allowances = heldOf .units c.allowances := by
    dsimp only [rate]
    split
    · rfl
    · exact heldOf_draw_other (by decide) _ _
  exact (moneyStage_units _ _ _ _).trans ((voiceStage_units _ _ _ _).trans data)

/-- The answer's octets about money, by their places (R92; notes/assumptions/9.md). -/
theorem reportFields_money (h : Handle) (c : Context) (grace : Bool) (zone : Nat) (column : Column) (stale : Bool)
    (r : Rated) (cap : Nat) : ∃ head middle tail : List Byte, head.length = 26 ∧ middle.length = 20
      ∧ reportFields h c grace zone column stale r cap = head ++ octets 5 r.dataPart.money ++ middle
          ++ octets 4 r.voicePart.money ++ octets 5 r.moneyPart.money ++ octets 5 r.moneyPart.drawn
          ++ octets 4 r.moneyPart.added ++ octets 5 r.moneyPart.writtenOff ++ tail := by
  refine ⟨handleOctets h ++ identityOctets c.identity ++ octets 1 c.state.code
      ++ octets 1 (if grace then Role.grace.code else Role.live.code) ++ octets 2 zone ++ octets 1 column.code
      ++ flagField stale ++ octets 4 r.dataPart.absorbed ++ octets 3 r.dataPart.blocks
      ++ octets 3 r.dataPart.remainder,
    octets 2 r.voicePart.unrated ++ octets 3 ((r.voicePart.record.map (·.elapsed)).getD 0)
      ++ octets 3 ((r.voicePart.record.map (·.billed)).getD 0) ++ octets 3 r.voicePart.charged
      ++ octets 3 r.voicePart.absorbed ++ octets 3 r.voicePart.priced ++ octets 2 r.voicePart.price
      ++ octets 1 ((r.voicePart.record.map (·.fraction)).getD 0),
    octets 4 c.overrun ++ octets 4 c.cap ++ flagField (r.moneyPart.meetsCap cap) ++ flagField c.barred
      ++ flagField c.slow ++ listOctets (fun t => octets 1 t.toNat) r.tags ++ octets 1 c.allowances.length,
    ?_, ?_, ?_⟩
  · simp [handleOctets, identityOctets, flagField]
  · simp
  · dsimp only [reportFields]
    simp only [List.append_assoc]

/-- The end of a service sends the request's answer, behind those sent before (R20). -/
theorem State.finish_sent (s : State) (r : RequesterId) (m : Message) (reply : Reply) :
    (s.finish r m reply).port.sent = s.port.sent ++ [⟨r, m.kind, m.tag, reply.status, reply.body⟩] := by
  have released (t : State) : (t.releaseEngine r).port.sent = t.port.sent := by
    unfold State.releaseEngine
    dsimp only
    split <;> rfl
  unfold State.finish
  dsimp only
  rw [State.conclude_frame]
  dsimp only
  rw [(State.takeDueExpiry_frame _).2.2, released, State.send_port, s.grantAtOnce_frame]

/-- Settles O31: the report taken, its money by the stages, and the answer's octets by their places. -/
theorem reportMoneyAccounted : Obligations.ReportMoneyAccounted := by
  intro s r m h slot tag up down seconds serves taken headroom
  obtain ⟨p, grace, stale, chosen⟩ : ∃ p grace stale, s.chooseProfile tag = (p, grace, stale) := ⟨_, _, _, rfl⟩
  have done := reportUsageRule_taken taken chosen slot up down seconds m.body
  let column := if (s.link slot).kind = .sat then Column.sat else .shore
  let row := (s.bank.slots.get p).row (s.ctx h).plan column
  let rated := rate row (s.ctx h) (up + down) seconds
  let active := decide (0 < up ∨ 0 < down ∨ 0 < seconds)
  let c' := rated.apply (s.ctx h) active s.idleDeadline
  let told := (s.commit h c').tellReport h rated.tags (rated.moneyPart.meetsCap (s.ctx h).cap)
  have events : (s.commit h c').Beside told := State.tellReport_beside _ _ _ _
  obtain ⟨head, middle, tail, long, wide, fields⟩ := reportFields_money h c' grace (s.bank.slots.get p).zone column
    (stale || decide ((s.link slot).kind = .unused)) rated (s.ctx h).cap
  obtain ⟨priced, added, -⟩ := moneyStage_balance rated.voicePart.allowances (s.ctx h).overrun (s.ctx h).cap
    (rated.dataPart.money + rated.voicePart.money) headroom
  obtain ⟨allowances, overrun, -⟩ := rated.apply_account (s.ctx h) active s.idleDeadline
  have ctx (reply : Reply) : (told.finish r m reply).ctx h = c' := by
    rw [(told.finish_keepsStore r m reply).ctx, events.keepsStore.ctx, State.ctx_commit_self]
  refine ⟨_, head, middle, tail, rated.dataPart.money, rated.voicePart.money, rated.moneyPart.drawn,
    rated.moneyPart.added, rated.moneyPart.writtenOff, exec_ruled serves rfl done, ?_, long, wide, priced.symm, ?_, ?_⟩
  · rw [State.finish_sent, events.keepsControl.port, State.commit_port, fields]
    rfl
  · rw [ctx, overrun]
    exact added
  · rw [ctx, allowances]
    exact rate_units row (s.ctx h) (up + down) seconds

end Sys2Proof.Machine
end

section
/-! SUPPORT. The Profile Bank's roles (`BankInv`) under each operation on its slots: a slot replaced, the grace expiry,
an exchange of roles and a staging. -/

namespace Sys2Proof.Machine

namespace BankInv

variable {b : Bank}

/-- A role other than FREE is one slot's alone (R99). -/
theorem holder (inv : BankInv b) {i j : ProfileId} {role : Role} (named : role ≠ .free)
    (hi : (b.slots.get i).role = role) (hj : (b.slots.get j).role = role) : i = j :=
  inv.once i j (hi ▸ named) (hi.trans hj.symm)

/-- A slot that is not LIVE replaced by one that is FREE or OPEN. -/
theorem set (inv : BankInv b) {i : ProfileId} {p : ProfileSlot} {d : Option Nat}
    (unlive : (b.slots.get i).role ≠ .live)
    (role : p.role = .free ∨ (p.role = .opened ∧ ∀ j, j ≠ i → (b.slots.get j).role ≠ .opened))
    (deadline : d.isSome = true ↔ ∃ j, j ≠ i ∧ (b.slots.get j).role = .grace)
    (rows : ∀ j, (p.rows.get j).ok = true) :
    BankInv { b with slots := b.slots.set i p, graceDeadline := d } := by
  constructor <;> simp only [Four.get_set]
  case live =>
    obtain ⟨l, live⟩ := inv.live
    exact ⟨l, by rwa [if_neg fun same : l = i => unlive (same ▸ live)]⟩
  case once => have := inv.once; grind
  case liveZone => have := inv.liveZone; grind
  case stagedZone => have := inv.stagedZone; grind
  case deadline => rw [deadline]; grind
  case written => have := inv.written; grind
  case rows => have := inv.rows; grind

/-- The grace deadline stays where the slot replaced is not the GRACE slot. -/
theorem put (inv : BankInv b) {i : ProfileId} {p : ProfileSlot} (unlive : (b.slots.get i).role ≠ .live)
    (ungrace : (b.slots.get i).role ≠ .grace)
    (role : p.role = .free ∨ (p.role = .opened ∧ ∀ j, j ≠ i → (b.slots.get j).role ≠ .opened))
    (rows : ∀ j, (p.rows.get j).ok = true) : BankInv { b with slots := b.slots.set i p } :=
  inv.set (d := b.graceDeadline) unlive role
    (inv.deadline.trans ⟨fun ⟨j, grace⟩ => ⟨j, fun same => ungrace (same ▸ grace), grace⟩, fun ⟨j, _, grace⟩ =>
      ⟨j, grace⟩⟩) rows

/-- The roles do not depend on the present zone. -/
theorem presentZone (inv : BankInv b) (zone : Nat) : BankInv { b with presentZone := zone } :=
  ⟨inv.live, inv.once, inv.liveZone, inv.stagedZone, inv.deadline, inv.written, inv.rows⟩

end BankInv

/-! ## The grace expiry (R117) -/

/-- The GRACE slot expires. -/
theorem State.expireGrace_eq {s : State} (inv : BankInv s.bank) {i : ProfileId}
    (grace : (s.bank.slots.get i).role = .grace) : s.expireGrace = { s with
      bank := { s.bank with slots := s.bank.slots.set i (ProfileSlot.cleared .free), graceDeadline := none }
      events := { s.events with
        pendingSet := s.events.pendingSet ||| 1024#17
        details := { s.events.details with graceZone := (s.bank.slots.get i).zone } } } := by
  simp only [State.expireGrace, State.slotIn_only inv (by decide) grace]
  rfl

/-- A slot given a role keeps its rows. -/
theorem ProfileSlot.rowsWritten_role (p : ProfileSlot) (role : Role) :
    ({ p with role := role } : ProfileSlot).rowsWritten = p.rowsWritten := rfl

theorem ProfileSlot.cleared_row (role : Role) (j : Fin 16) : ((ProfileSlot.cleared role).rows.get j).ok = true := by
  simp [ProfileSlot.cleared, Vector.get, TariffRow.unwritten, TariffRow.ok]

theorem BankInv.expireGrace {s : State} (inv : BankInv s.bank) {i : ProfileId}
    (grace : (s.bank.slots.get i).role = .grace) : BankInv s.expireGrace.bank := by
  rw [State.expireGrace_eq inv grace]
  refine inv.set (by simp [grace]) (.inl rfl) ?_ (ProfileSlot.cleared_row .free)
  simpa using fun j other held => other (inv.holder (by decide) held grace)

/-! ## An exchange of roles (R111, R113, R114) -/

theorem Bank.live_ne {b : Bank} {l i : ProfileId} (live : (b.slots.get l).role = .live)
    (named : (b.slots.get i).role = .staged ∨ (b.slots.get i).role = .grace) : l ≠ i :=
  fun same => by simp [← same, live] at named

/-- What slot `j` becomes where slot `i` is made LIVE, before the new grace deadline is looked at. -/
def Bank.exchanged (b : Bank) (i j : ProfileId) : ProfileSlot :=
  let p := b.slots.get j
  if j = i then { p with role := .live }
  else if p.role = .live then { p with role := .grace }
  else if p.role = .grace then ProfileSlot.cleared .free
  else p

/-- The bank where slot `i` is made LIVE, the new grace deadline running. -/
def Bank.exchange (b : Bank) (i : ProfileId) (deadline : Nat) : Bank :=
  { b with
    slots := ⟨b.exchanged i 0, b.exchanged i 1, b.exchanged i 2, b.exchanged i 3⟩, graceDeadline := some deadline }

@[simp] theorem Bank.exchange_get (b : Bank) (i j : ProfileId) (d : Nat) :
    (b.exchange i d).slots.get j = b.exchanged i j := Four.get_mk (b.exchanged i) j

theorem BankInv.exchange {b : Bank} (inv : BankInv b) {i : ProfileId}
    (named : (b.slots.get i).role = .staged ∨ (b.slots.get i).role = .grace) (d : Nat) :
    BankInv (b.exchange i d) := by
  obtain ⟨l, live⟩ := inv.live
  have once := inv.once
  have free : (ProfileSlot.cleared .free).role = .free := rfl
  constructor <;> simp only [Bank.exchange_get, Bank.exchanged]
  case live => exact ⟨i, by simp⟩
  case once => grind
  case liveZone => have := inv.liveZone; have := inv.stagedZone; grind
  case stagedZone => have := inv.liveZone; have := inv.stagedZone; grind
  case deadline =>
    have other := Bank.live_ne live named
    exact iff_of_true rfl ⟨l, by simp [other, live]⟩
  case written =>
    have := inv.written
    have kept := ProfileSlot.rowsWritten_role
    grind
  case rows => have := inv.rows; have := ProfileSlot.cleared_row .free; grind

/-- A GRACE slot other than the one promoted becomes FREE, with no event (R114). -/
def State.dropGrace (s : State) (i : ProfileId) : State :=
  match s.slotIn .grace with
  | some g => if g = i then s else s.freeSlot g
  | none => s

theorem State.dropGrace_eq {s : State} (inv : BankInv s.bank) (i : ProfileId) : ∃ slots : Four ProfileSlot,
    s.dropGrace i = { s with bank := { s.bank with slots := slots } } ∧ ∀ j, slots.get j =
      if j ≠ i ∧ (s.bank.slots.get j).role = .grace then ProfileSlot.cleared .free else s.bank.slots.get j := by
  unfold State.dropGrace
  cases held : s.slotIn .grace with
  | none =>
    have absent := (s.slotIn_none .grace).1 held
    exact ⟨s.bank.slots, rfl, fun j => (if_neg fun h => absent j h.2).symm⟩
  | some g =>
    obtain ⟨grace, -⟩ := (s.slotIn_some .grace g).1 held
    have only {j : ProfileId} (h : (s.bank.slots.get j).role = .grace) : j = g := inv.holder (by decide) h grace
    dsimp only
    split
    · rename_i same
      exact ⟨s.bank.slots, rfl, fun j => (if_neg fun h => h.1 ((only h.2).trans same)).symm⟩
    · refine ⟨_, rfl, fun j => ?_⟩
      rw [Four.get_set]
      grind

/-- The roles are exchanged, and a grace deadline already reached is taken at once. -/
theorem State.exchangeRoles_eq {s : State} (inv : BankInv s.bank) {i : ProfileId}
    (named : (s.bank.slots.get i).role = .staged ∨ (s.bank.slots.get i).role = .grace) :
    let deadline := min (s.clock + (s.bank.slots.get i).graceWindow) Config.maxClock
    let t := { s with bank := s.bank.exchange i deadline }
    s.exchangeRoles i = if deadline ≤ s.clock then t.expireGrace else t := by
  obtain ⟨l, live, liveSlot, -⟩ := State.live_eq inv
  obtain ⟨slots, freed, get⟩ := State.dropGrace_eq inv i
  have other := Bank.live_ne live named
  change (let roles := ((s.dropGrace i).setRole s.liveSlot .grace).setRole i .live
    let deadline := roles.deadlineIn (s.bank.slots.get i).graceWindow
    let t := roles.setGrace (some deadline)
    if deadline ≤ t.clock then t.expireGrace else t) = _
  rw [freed, liveSlot]
  have exchanged : ((slots.set l { slots.get l with role := .grace }).set i
      { (slots.set l { slots.get l with role := .grace }).get i with role := .live })
        = (s.bank.exchange i 0).slots := by
    refine Four.ext_get fun j => ?_
    simp only [Bank.exchange_get, Bank.exchanged, Four.get_set, get]
    have only := inv.holder (i := j) (j := l) (role := .live) (by decide)
    grind
  simp only [State.setRole, State.setSlot, exchanged]
  rfl

theorem BankInv.exchangeRoles {s : State} (inv : BankInv s.bank) {i : ProfileId}
    (named : (s.bank.slots.get i).role = .staged ∨ (s.bank.slots.get i).role = .grace) :
    BankInv (s.exchangeRoles i).bank := by
  obtain ⟨l, live⟩ := inv.live
  have other := Bank.live_ne live named
  have exchanged (d : Nat) := inv.exchange named d
  rw [State.exchangeRoles_eq inv named]
  split
  · exact BankInv.expireGrace (i := l) (exchanged _) (by simp [Bank.exchanged, other, live])
  · exact exchanged _

/-! ## A staging (R110) -/

theorem State.zoneIn_iff {s : State} (inv : BankInv s.bank) {role : Role} (named : role ≠ .free) (zone : Nat) :
    s.zoneIn role = some zone ↔ ∃ j, (s.bank.slots.get j).role = role ∧ (s.bank.slots.get j).zone = zone := by
  unfold State.zoneIn
  constructor
  · intro h
    obtain ⟨j, held, rfl⟩ := Option.map_eq_some_iff.1 h
    exact ⟨j, ((s.slotIn_some role j).1 held).1, rfl⟩
  · rintro ⟨j, held, rfl⟩
    rw [State.slotIn_only inv named held]
    rfl

/-- A named role is found at the one slot that holds it. -/
theorem State.slotIn_iff {s : State} (inv : BankInv s.bank) {role : Role} (named : role ≠ .free) (j : ProfileId) :
    s.slotIn role = some j ↔ (s.bank.slots.get j).role = role :=
  ⟨fun h => ((s.slotIn_some role j).1 h).1, State.slotIn_only inv named⟩

/-- A staging frees the STAGED slot, and a GRACE slot of its zone. -/
theorem State.mem_stagingFrees {s : State} (inv : BankInv s.bank) (zone : Nat) (j : ProfileId) :
    j ∈ s.stagingFrees zone ↔ (s.bank.slots.get j).role = .staged
      ∨ ((s.bank.slots.get j).role = .grace ∧ (s.bank.slots.get j).zone = zone) := by
  unfold State.stagingFrees
  rw [← State.slotIn_iff inv (role := .staged) (by decide), ← State.slotIn_iff inv (role := .grace) (by decide),
    List.mem_append]
  grind

/-- Slots freed one after the other. -/
theorem State.foldl_freeSlot (list : List ProfileId) (s : State) : ∃ slots : Four ProfileSlot,
    list.foldl State.freeSlot s = { s with bank := { s.bank with slots := slots } } ∧ ∀ j, slots.get j =
      if j ∈ list then ProfileSlot.cleared .free else s.bank.slots.get j := by
  induction list generalizing s with
  | nil => exact ⟨s.bank.slots, rfl, fun j => by simp⟩
  | cons a rest ih =>
    obtain ⟨slots, h, get⟩ := ih (s.freeSlot a)
    refine ⟨slots, h, fun j => ?_⟩
    rw [get, State.freeSlot_bank]
    dsimp only
    rw [Four.get_set]
    grind

/-- What slot `j` becomes where slot `i` is staged (R110). -/
def Bank.stagedSlot (b : Bank) (i j : ProfileId) : ProfileSlot :=
  let p := b.slots.get j
  if j = i then { p with role := .staged }
  else if p.role = .staged ∨ (p.role = .grace ∧ p.zone = (b.slots.get i).zone) then ProfileSlot.cleared .free
  else p

/-- The bank where slot `i` is staged. -/
def Bank.stage (b : Bank) (i : ProfileId) : Bank :=
  { b with
    slots := ⟨b.stagedSlot i 0, b.stagedSlot i 1, b.stagedSlot i 2, b.stagedSlot i 3⟩
    graceDeadline := if ∃ j : ProfileId, (b.slots.get j).role = .grace ∧ (b.slots.get j).zone = (b.slots.get i).zone
      then none else b.graceDeadline }

@[simp] theorem Bank.stage_get (b : Bank) (i j : ProfileId) : (b.stage i).slots.get j = b.stagedSlot i j :=
  Four.get_mk (b.stagedSlot i) j

theorem State.stage_eq {s : State} (inv : BankInv s.bank) {i : ProfileId}
    (opened : (s.bank.slots.get i).role = .opened) : s.stage i = { s with bank := s.bank.stage i } := by
  obtain ⟨slots, freed, get⟩ := State.foldl_freeSlot (s.stagingFrees (s.bank.slots.get i).zone) s
  have staged : slots.set i { slots.get i with role := .staged } = (s.bank.stage i).slots := by
    refine Four.ext_get fun j => ?_
    simp only [Bank.stage_get, Bank.stagedSlot, Four.get_set, get, State.mem_stagingFrees inv]
    grind
  unfold State.stage
  dsimp only
  rw [freed]
  simp only [State.zoneIn_iff inv (role := .grace) (by decide)]
  split
  · rename_i named
    simp only [State.setRole, State.setSlot, State.setGrace, staged, Bank.stage, if_pos named]
  · rename_i unnamed
    simp only [State.setRole, State.setSlot, staged, Bank.stage, if_neg unnamed]

theorem BankInv.stage {b : Bank} (inv : BankInv b) {i : ProfileId} (opened : (b.slots.get i).role = .opened)
    (written : (b.slots.get i).rowsWritten = 16)
    (other : ∀ j, (b.slots.get j).role = .live → (b.slots.get j).zone ≠ (b.slots.get i).zone) :
    BankInv (b.stage i) := by
  have once := inv.once
  have free : (ProfileSlot.cleared .free).role = .free := rfl
  have kept := ProfileSlot.rowsWritten_role
  constructor <;> simp only [Bank.stage_get, Bank.stagedSlot]
  case live =>
    obtain ⟨l, live⟩ := inv.live
    exact ⟨l, by grind⟩
  case once => grind
  case liveZone => have := inv.liveZone; grind
  case stagedZone => have := inv.stagedZone; grind
  case deadline =>
    have := inv.deadline
    simp only [Bank.stage]
    split <;> grind
  case written => have := inv.written; grind
  case rows => have := inv.rows; have := ProfileSlot.cleared_row .free; grind

end Sys2Proof.Machine
end

section
/-! SUPPORT. The Profile Bank and Coverage Control (`State.profiles`): what leaves them as they are, and their invariant
under what does not. -/

namespace Sys2Proof.Machine

/-- What the Profile Bank and Coverage Control hold: everything that `BankInv` and `CoverageInv` read. -/
def State.profiles (s : State) : Bank × Coverage := (s.bank, s.coverage)

namespace State

/-! ## Operations that leave the profiles and the mode -/

@[simp] theorem raise_profiles (s : State) (e : Event) (d : Details) : (s.raise e d).profiles = s.profiles := rfl

@[simp] theorem setLink_profiles (s : State) (i : LinkId) (l : LinkSlot) : (s.setLink i l).profiles = s.profiles := rfl

@[simp] theorem send_profiles (s : State) (a : Answer) : (s.send a).profiles = s.profiles := rfl

@[simp] theorem order_profiles (s : State) (k : WalkKind) : (s.order k).profiles = s.profiles := rfl

@[simp] theorem nextWalk_profiles (s : State) : s.nextWalk.profiles = s.profiles := rfl

@[simp] theorem commit_profiles (s : State) (h : Handle) (c : Context) : (s.commit h c).profiles = s.profiles := by
  rw [s.commit_frame]
  rfl

@[simp] theorem dropShift_profiles (s : State) : s.dropShift.profiles = s.profiles := by
  rw [s.dropShift_frame]
  rfl

@[simp] theorem joinLost_profiles (s : State) (i : LinkId) : (s.joinLost i).profiles = s.profiles := by
  rw [s.joinLost_frame]
  rfl

@[simp] theorem orderUnpark_profiles (s : State) : s.orderUnpark.profiles = s.profiles := by
  unfold State.orderUnpark
  split <;> rfl

@[simp] theorem endHold_profiles (s : State) : s.endHold.profiles = s.profiles := by
  rw [s.endHold_eq]
  rfl

@[simp] theorem conclude_profiles (s : State) : s.conclude.profiles = s.profiles := by
  rw [s.conclude_frame]
  rfl

@[simp] theorem grantAtOnce_profiles (s : State) : s.grantAtOnce.profiles = s.profiles := by
  rw [s.grantAtOnce_frame]
  rfl

@[simp] theorem releaseEngine_profiles (s : State) (r : RequesterId) :
    (s.releaseEngine r).profiles = s.profiles := by
  unfold State.releaseEngine
  dsimp only
  split <;> rfl

/-- A change of one kind made for each member of a list. -/
theorem foldl_profiles {α : Type} {f : State → α → State} (each : ∀ t a, (f t a).profiles = t.profiles)
    (list : List α) (s : State) : (list.foldl f s).profiles = s.profiles := by
  induction list generalizing s with
  | nil => rfl
  | cons a rest ih => exact (ih _).trans (each s a)

/-- The operations of the Link Supervisor leave the profiles and the mode. -/
theorem linkClosed_profiles (p : Bank × Coverage) : LinkClosed fun t => t.profiles = p where
  setLink _ _ same := same
  raise _ _ same := same
  joinLost i same := (joinLost_profiles _ i).trans same

@[simp] theorem demote_profiles (s : State) (i : LinkId) : (s.demote i).profiles = s.profiles :=
  (linkClosed_profiles _).demote i rfl

@[simp] theorem configureSlot_profiles (s : State) (i : LinkId) (new : LinkSlot) :
    (s.configureSlot i new).profiles = s.profiles := (linkClosed_profiles _).configureSlot i new rfl

@[simp] theorem probe_profiles (s : State) (i : LinkId) (success : Bool) (quality operator : Nat) :
    (s.probe i success quality operator).profiles = s.profiles :=
  (linkClosed_profiles _).probe i success quality operator rfl

@[simp] theorem disableQueue_profiles (s : State) (r : RequesterId) (queue : List Message) :
    (s.disableQueue r queue).profiles = s.profiles :=
  foldl_profiles (f := fun t (m : Message) => t.send ⟨r, m.kind, m.tag, .disabled, []⟩) (fun _ _ => rfl) queue s

@[simp] theorem tellReport_profiles (s : State) (h : Handle) (tags : List Byte) (met : Bool) :
    (s.tellReport h tags met).profiles = s.profiles := by
  rw [← Bool.decide_coe met, s.tellReport_eq]
  rfl

@[simp] theorem startDwell_profiles (s : State) (i : LinkId) : (s.startDwell i).profiles = s.profiles := by
  unfold State.startDwell
  dsimp only
  split <;> rfl

@[simp] theorem revokeHold_profiles (s : State) : s.revokeHold.profiles = s.profiles := s.endHold_profiles

@[simp] theorem takeDueExpiry_profiles (s : State) : s.takeDueExpiry.profiles = s.profiles := by
  unfold State.takeDueExpiry
  split
  · exact s.revokeHold_profiles
  · rfl

@[simp] theorem finish_profiles (s : State) (r : RequesterId) (m : Message) (reply : Reply) :
    (s.finish r m reply).profiles = s.profiles := by
  simp [State.finish]

@[simp] theorem answerHold_profiles (s : State) : s.answerHold.profiles = s.profiles := by
  unfold State.answerHold
  (repeat' split) <;> simp

@[simp] theorem arrive_profiles (s : State) (r : RequesterId) (m : Message) : (s.arrive r m).profiles = s.profiles := by
  unfold State.arrive
  dsimp only
  (repeat' split) <;> rfl

@[simp] theorem retireContext_profiles (s : State) (h : Handle) : (s.retireContext h).profiles = s.profiles := by
  unfold State.retireContext
  split <;> simp

theorem visit_profiles (s : State) (h : Handle) : (s.visit h).profiles = s.profiles := by
  unfold State.visit
  dsimp only
  (repeat' split) <;> simp [State.raiseRetired]

/-- A walk's work at a handle. -/
theorem work_profiles (k : WalkKind) (h : Handle) (s : State) : (k.work h s).profiles = s.profiles := by
  cases k with
  | failover =>
    change (s.failoverWork h).profiles = _
    unfold State.failoverWork
    dsimp only
    split
    · split
      · split <;> exact s.commit_profiles _ _
      · rfl
    all_goals rfl
  | shift =>
    change (s.shiftWork h).profiles = _
    unfold State.shiftWork
    dsimp only
    split
    · rfl
    · split
      · exact s.commit_profiles _ _
      · rfl
  | unpark =>
    change (s.unparkWork h).profiles = _
    unfold State.unparkWork
    dsimp only
    (repeat' split) <;> simp
  | dark =>
    change (s.darkWork h).profiles = _
    unfold State.darkWork
    (repeat' split) <;> simp

/-- The completion of a walk of another kind than DARK. -/
theorem complete_profiles {k : WalkKind} (other : k ≠ .dark) (s : State) : (k.complete s).profiles = s.profiles := by
  cases k with
  | failover =>
    change s.failoverComplete.profiles = _
    unfold State.failoverComplete
    dsimp only
    split <;> rfl
  | shift => rfl
  | unpark => rfl
  | dark => exact absurd rfl other

end State

end Sys2Proof.Machine
end

section
/-! SUPPORT. The rules of the request kinds that leave the profiles and the mode. -/

namespace Sys2Proof.Machine

/-- The kinds whose rule may change a profile slot, the present zone, the ceiling or the mode. -/
def Kind.writesProfiles (k : Kind) : Bool :=
  [Kind.openProfile, .writeProfileHeader, .writeTariffRow, .writeCandidates, .discardProfile, .stageProfile, .enterZone,
    .setCeiling, .clearVoyage].contains k

/-- Every other rule leaves the profiles and the mode. -/
theorem rule_profiles {k : Kind} {rule : Option Request → List Byte → State → State × Reply}
    (ruled : k.rule = some rule) (leaves : k.writesProfiles = false) (q : Option Request) (b : List Byte) (s : State) :
    (rule q b s).1.profiles = s.profiles := by
  cases k
  case holdStore => cases ruled
  all_goals obtain rfl := Option.some.inj ruled
  -- Every branch gives the state as it was, or one of the operations above on it.
  case attach | lookup | lookupHandle | openBearer | closeBearer | retire | admitContext | refuse | nextProbation |
      nextSettlement | settleContext | addAllowance | removeAllowance | setCap | setPlan | releaseStore | readProfile
      | configureLink | probeResult | openLink | closeLink | readRoute | abortShift | readEvents | readStatus =>
    simp only [attachRule, lookupRule, lookupHandleRule, openBearerRule, closeBearerRule, retireRule,
      admitContextRule, refuseRule, nextProbationRule, nextSettlementRule, settleContextRule, addAllowanceRule,
      removeAllowanceRule, setCapRule, setPlanRule, releaseStoreRule, readProfileRule, configureLinkRule,
      probeResultRule, openLinkRule, closeLinkRule, readRouteRule, abortShiftRule, readEventsRule, readStatusRule]
    (repeat' split) <;> simp
  case clearRoute | shift | setEventMask | ackEvents | setLimits =>
    simp only [clearRouteRule, shiftRule, setEventMaskRule, ackEventsRule, setLimitsRule]
    (repeat' split) <;> rfl
  case detach =>
    unfold detachRule
    repeat' split
    · rfl
    · exact s.retireContext_profiles _
    · rfl
  case reportUsage =>
    unfold reportUsageRule
    dsimp only
    split
    · split
      · rfl
      · exact (State.tellReport_profiles (s.commit _ _) _ _ _).trans (s.commit_profiles _ _)
    · rfl
  case setRoute =>
    unfold setRouteRule
    dsimp only
    repeat' split
    · exact State.orderUnpark_profiles _
    · rfl
    · exact State.orderUnpark_profiles _
    · rfl
  case configureRequester =>
    unfold configureRequesterRule
    split
    · exact s.disableQueue_profiles _ _
    · rfl
  case start =>
    unfold startRule
    repeat' split
    · rfl
    · exact State.foldl_profiles State.startDwell_profiles slotIds _
    · rfl
  all_goals exact absurd leaves (by decide)

end Sys2Proof.Machine
end

section
/-! The profile roles and the coverage mode under every step (O55). -/

namespace Sys2Proof.Machine

/-- The target is no louder than either of the two it is formed from (R120). -/
theorem quieter_loudness (a b : Permit) :
    (quieter a b).loudness ≤ a.loudness ∧ (quieter a b).loudness ≤ b.loudness := by
  cases a <;> cases b <;> decide

/-- A recomputation leaves the mode as loud as its target (R122). -/
theorem State.recompute_loudness (s : State) : s.recompute.1.coverage.mode.loudness = s.target.loudness := by
  unfold State.recompute
  split <;> simp [*, Mode.loudness, Permit.loudness, State.setMode, State.raiseCoverage]

/-- The profile that ENTER_ZONE finds STAGED (R113). -/
theorem State.staged_of_entryCase {s : State} {zone : Nat} {i : ProfileId}
    (named : s.entryCase zone = (.staged, some i)) : (s.bank.slots.get i).role = .staged := by
  unfold State.entryCase at named
  refine ((s.slotIn_some .staged i).1 ?_).1
  grind

/-- The profile that ENTER_ZONE finds in GRACE (R114). -/
theorem State.grace_of_entryCase {s : State} {zone : Nat} {i : ProfileId}
    (named : s.entryCase zone = (.returned, some i)) : (s.bank.slots.get i).role = .grace := by
  unfold State.entryCase at named
  refine ((s.slotIn_some .grace i).1 ?_).1
  grind

theorem State.stagingFaults_eq (s : State) (p : ProfileSlot) : s.stagingFaults p = (if p.zone = 0 then 1 else 0)
    + (if p.zone = s.live.zone then 2 else 0) + (if p.rowsWritten = 16 then 0 else 4) := by
  simp [State.stagingFaults, flagOctet, mul_ite]

/-- A profile may be staged where its zone is neither 0 nor the LIVE zone and its rows are written (R109). -/
theorem State.stagingFaults_zero (s : State) (p : ProfileSlot) :
    s.stagingFaults p = 0 ↔ p.zone ≠ 0 ∧ p.zone ≠ s.live.zone ∧ p.rowsWritten = 16 := by
  rw [s.stagingFaults_eq p]
  grind

/-- A row written is within the ranges of R78 (R105). -/
theorem TariffRow.carried_ok {b : Nat} (ranged : ¬(b < 256 ∨ 1048576 < b)) (pd pv increment minimum : Nat) :
    (TariffRow.carried b pd pv increment minimum).ok = true := by
  obtain ⟨low, high⟩ : 256 ≤ b ∧ b ≤ 1048576 := by omega
  simp [TariffRow.carried, TariffRow.ok, low, high]

theorem ProfileSlot.setRow_ok {p : ProfileSlot} (rows : ∀ j, (p.rows.get j).ok = true) {r : TariffRow}
    (ok : r.ok = true) (plan : Fin 8) (column : Column) (j : Fin 16) :
    ((p.setRow plan column r).rows.get j).ok = true := by
  change ((p.rows.set (rowIndex plan column).val r (rowIndex plan column).isLt)[j.val]).ok = true
  rw [Vector.getElem_set]
  split
  · exact ok
  · exact rows j

theorem BankInv.reset : BankInv State.reset.bank := by
  constructor <;> decide

/-- The Profile Bank is as R99 says, and the mode no louder than the LIVE permit and the ceiling (R120). -/
structure ProfileInv (s : State) : Prop where
  bank : BankInv s.bank
  coverage : CoverageInv s

namespace ProfileInv

variable {s t : State}

theorem of_profiles (inv : ProfileInv s) (same : t.profiles = s.profiles) : ProfileInv t := by
  obtain ⟨bank, coverage⟩ := Prod.mk.inj same
  have live : t.live = s.live := by simp only [State.live, State.liveSlot, State.slotIn, bank]
  exact ⟨bank ▸ inv.bank, by simpa only [CoverageInv, live, coverage] using inv.coverage⟩

/-- A part in DARKENING or DARK is as quiet as any permit and ceiling ask. -/
theorem of_quiet (bank : BankInv s.bank) (quiet : s.coverage.mode.loudness = 0) : ProfileInv s :=
  ⟨bank, by simp [CoverageInv, quiet]⟩

/-- A change of the slots that leaves the LIVE one. -/
theorem of_bank (inv : ProfileInv s) (bank : BankInv t.bank) (coverage : t.coverage = s.coverage)
    (kept : ∀ i, (s.bank.slots.get i).role = .live → t.bank.slots.get i = s.bank.slots.get i) : ProfileInv t := by
  obtain ⟨i, live, -, before⟩ := State.live_eq inv.bank
  have found : t.slotIn .live = some i := State.slotIn_only bank (by decide) (by rw [kept i live, live])
  have after : t.live = s.live := by rw [before, ← kept i live, State.live, State.liveSlot, found]; rfl
  exact ⟨bank, by simpa only [CoverageInv, after, coverage] using inv.coverage⟩

/-! ## Profile slots -/

/-- A slot that is neither LIVE nor GRACE replaced by one that is FREE or OPEN. -/
theorem setSlot (inv : ProfileInv s) {i : ProfileId} {p : ProfileSlot} (unlive : (s.bank.slots.get i).role ≠ .live)
    (ungrace : (s.bank.slots.get i).role ≠ .grace)
    (role : p.role = .free ∨ (p.role = .opened ∧ ∀ j, j ≠ i → (s.bank.slots.get j).role ≠ .opened))
    (rows : ∀ j, (p.rows.get j).ok = true) : ProfileInv (s.setSlot i p) := by
  refine inv.of_bank (inv.bank.put unlive ungrace role rows) rfl fun j live => ?_
  have other : j ≠ i := fun same => unlive (same ▸ live)
  rw [State.setSlot_bank]
  exact (Four.get_set _ _ _ _).trans (if_neg other)

/-- The OPEN slot written, its role and the ranges of its rows kept. -/
theorem write (inv : ProfileInv s) {i : ProfileId} (found : s.slotIn .opened = some i) {p : ProfileSlot}
    (role : p.role = (s.bank.slots.get i).role) (rows : ∀ j, (p.rows.get j).ok = true) :
    ProfileInv (s.setSlot i p) := by
  obtain ⟨opened, -⟩ := (s.slotIn_some .opened i).1 found
  exact inv.setSlot (by simp [opened]) (by simp [opened])
    (.inr ⟨role.trans opened, fun j other held => other (inv.bank.holder (by decide) held opened)⟩) rows

theorem freeSlot (inv : ProfileInv s) {i : ProfileId} (unlive : (s.bank.slots.get i).role ≠ .live)
    (ungrace : (s.bank.slots.get i).role ≠ .grace) : ProfileInv (s.freeSlot i) :=
  inv.setSlot unlive ungrace (.inl rfl) (ProfileSlot.cleared_row .free)

theorem expireGrace (inv : ProfileInv s) : ProfileInv s.expireGrace := by
  cases found : s.slotIn .grace with
  | none => simpa only [State.expireGrace, found] using inv
  | some i =>
    obtain ⟨grace, -⟩ := (s.slotIn_some .grace i).1 found
    refine inv.of_bank (inv.bank.expireGrace grace) (by rw [s.expireGrace_frame]) fun j live => ?_
    have other : j ≠ i := fun same => by simp [same, grace] at live
    rw [State.expireGrace_eq inv.bank grace]
    exact (Four.get_set _ _ _ _).trans (if_neg other)

/-! ## The recomputation and a promotion -/

/-- A recomputation leaves the mode as loud as its target, and so bounded by the LIVE permit and the ceiling (R120,
R122). -/
theorem recompute (bank : BankInv s.bank) : ProfileInv s.recompute.1 := by
  have frame := s.recompute_frame
  have bank' : s.recompute.1.bank = s.bank := by rw [frame]
  have live : s.recompute.1.live = s.live := by simp only [State.live, State.liveSlot, State.slotIn, bank']
  have ceiling : s.recompute.1.coverage.ceiling = s.coverage.ceiling := by rw [frame]
  obtain ⟨permitted, capped⟩ := quieter_loudness s.live.permit s.coverage.ceiling
  refine ⟨bank'.symm ▸ bank, ?_, ?_⟩
  · rw [s.recompute_loudness, live]
    exact permitted
  · rw [s.recompute_loudness, ceiling]
    exact capped

theorem handOver (bank : BankInv s.bank) : ProfileInv s.handOver :=
  (recompute bank).of_profiles ((State.linkClosed_profiles _).zoneChanges slotIds rfl)

/-- A STAGED or GRACE slot promoted. -/
theorem promote (bank : BankInv s.bank) {i : ProfileId}
    (named : (s.bank.slots.get i).role = .staged ∨ (s.bank.slots.get i).role = .grace) : ProfileInv (s.promote i) :=
  handOver (bank.exchangeRoles named)

/-- The OPEN slot staged, its zone not the LIVE zone and its rows written. -/
theorem stage (inv : ProfileInv s) {i : ProfileId} (opened : (s.bank.slots.get i).role = .opened)
    (written : (s.bank.slots.get i).rowsWritten = 16)
    (other : ∀ j, (s.bank.slots.get j).role = .live → (s.bank.slots.get j).zone ≠ (s.bank.slots.get i).zone) :
    ProfileInv (s.stage i) := by
  rw [State.stage_eq inv.bank opened]
  refine inv.of_bank (inv.bank.stage opened written other) rfl fun j live => ?_
  have distinct : j ≠ i := fun same => by simp [same, opened] at live
  simp [Bank.stagedSlot, distinct, live]

theorem enterZone (inv : ProfileInv s) (zone : Nat) : ProfileInv (s.enterZone zone) := by
  have bank := inv.bank.presentZone zone
  have entered : ProfileInv { s with bank := { s.bank with presentZone := zone } } :=
    inv.of_bank bank rfl fun _ _ => rfl
  unfold State.enterZone
  dsimp only
  split
  · exact entered
  · exact entered.of_profiles rfl
  · rename_i i named
    exact promote bank (.inl (State.staged_of_entryCase named))
  · rename_i i named
    exact promote bank (.inr (State.grace_of_entryCase named))
  · exact entered
  · exact entered

end ProfileInv

/-! ## The rules -/

section Rules

variable {s : State} (q : Option Request) (b : List Byte)

theorem openProfileRule_profileInv (inv : ProfileInv s) : ProfileInv (openProfileRule q b s).1 := by
  unfold openProfileRule
  split
  · split
    · exact inv
    · rename_i none_open
      split
      · rename_i i found
        obtain ⟨free, -⟩ := (s.slotIn_some .free i).1 found
        exact inv.setSlot (by simp [free]) (by simp [free])
          (.inr ⟨rfl, fun j _ => (s.slotIn_none .opened).1 none_open j⟩) (ProfileSlot.cleared_row .opened)
      · exact inv
  · exact inv

theorem writeProfileHeaderRule_profileInv (inv : ProfileInv s) : ProfileInv (writeProfileHeaderRule q b s).1 := by
  unfold writeProfileHeaderRule
  split
  · split
    · exact inv
    · rename_i i found
      exact inv.write found rfl (inv.bank.rows i)
  · exact inv

theorem writeTariffRowRule_profileInv (inv : ProfileInv s) : ProfileInv (writeTariffRowRule q b s).1 := by
  unfold writeTariffRowRule
  split
  · split
    · exact inv
    · rename_i i found
      split
      · exact inv
      · rename_i ranged
        exact inv.write found rfl (ProfileSlot.setRow_ok (inv.bank.rows i) (TariffRow.carried_ok ranged _ _ _ _) _ _)
  · exact inv

theorem writeCandidatesRule_profileInv (inv : ProfileInv s) : ProfileInv (writeCandidatesRule q b s).1 := by
  unfold writeCandidatesRule
  split
  · split
    · exact inv
    · rename_i i found
      exact inv.write found rfl (inv.bank.rows i)
  · exact inv

theorem discardProfileRule_profileInv (inv : ProfileInv s) : ProfileInv (discardProfileRule q b s).1 := by
  unfold discardProfileRule
  split
  · split
    · rename_i opened
      exact inv.freeSlot (by simp [opened]) (by simp [opened])
    · rename_i staged
      exact inv.freeSlot (by simp [staged]) (by simp [staged])
    all_goals exact inv
  · exact inv

theorem stageProfileRule_profileInv (inv : ProfileInv s) : ProfileInv (stageProfileRule q b s).1 := by
  unfold stageProfileRule
  split
  · split
    · exact inv
    · rename_i i found
      obtain ⟨opened, -⟩ := (s.slotIn_some .opened i).1 found
      dsimp only
      split
      · exact inv
      · rename_i faultless
        obtain ⟨-, other, written⟩ := (s.stagingFaults_zero _).1 (not_not.1 faultless)
        obtain ⟨l, live, -, liveProfile⟩ := State.live_eq inv.bank
        have staged := inv.stage opened written fun j hj => by
          rw [inv.bank.holder (by decide) hj live, ← liveProfile]
          exact other.symm
        split
        · exact .promote staged.bank (.inl (by rw [State.stage_eq inv.bank opened]; simp [Bank.stagedSlot]))
        · exact staged
  · exact inv

theorem enterZoneRule_profileInv (inv : ProfileInv s) : ProfileInv (enterZoneRule q b s).1 := by
  unfold enterZoneRule
  split
  · exact inv.enterZone _
  · exact inv

theorem setCeilingRule_profileInv (inv : ProfileInv s) : ProfileInv (setCeilingRule q b s).1 := by
  unfold setCeilingRule
  split
  · split
    · exact inv
    · exact .recompute (s := { s with coverage := _ }) inv.bank
  · exact inv

theorem clearVoyageRule_profileInv (inv : ProfileInv s) : ProfileInv (clearVoyageRule q b s).1 := by
  obtain refused | cleared := clearVoyageRule_cases q b s
  · rwa [refused]
  · rw [cleared, s.clearVoyage_eq]
    by_cases darkening : s.coverage.mode = .darkening
    · exact .of_quiet inv.bank (by simp [darkening, Mode.loudness])
    · exact inv.of_profiles (by simp [darkening, State.profiles])

/-- Every rule keeps the profile roles and the bound on the mode. -/
theorem rule_profileInv {k : Kind} {rule : Option Request → List Byte → State → State × Reply}
    (ruled : k.rule = some rule) (inv : ProfileInv s) : ProfileInv (rule q b s).1 := by
  cases writes : k.writesProfiles with
  | false => exact inv.of_profiles (rule_profiles ruled writes q b s)
  | true =>
    cases k
    case openProfile => exact Option.some.inj ruled ▸ openProfileRule_profileInv q b inv
    case writeProfileHeader => exact Option.some.inj ruled ▸ writeProfileHeaderRule_profileInv q b inv
    case writeTariffRow => exact Option.some.inj ruled ▸ writeTariffRowRule_profileInv q b inv
    case writeCandidates => exact Option.some.inj ruled ▸ writeCandidatesRule_profileInv q b inv
    case discardProfile => exact Option.some.inj ruled ▸ discardProfileRule_profileInv q b inv
    case stageProfile => exact Option.some.inj ruled ▸ stageProfileRule_profileInv q b inv
    case enterZone => exact Option.some.inj ruled ▸ enterZoneRule_profileInv q b inv
    case setCeiling => exact Option.some.inj ruled ▸ setCeilingRule_profileInv q b inv
    case clearVoyage => exact Option.some.inj ruled ▸ clearVoyageRule_profileInv q b inv
    all_goals exact absurd writes (by decide)

end Rules

/-! ## Commands -/

namespace ProfileInv

variable {s t : State}

/-- A walk step leaves the profiles, and the completion of the DARK walk sets the mode DARK (R129). -/
theorem walked (inv : ProfileInv s) (w : Walk) : ProfileInv (s.walked w) := by
  have worked : ProfileInv (w.kind.work w.cursor s) := inv.of_profiles (State.work_profiles _ _ s)
  unfold State.walked
  dsimp only
  split
  · by_cases kind : w.kind = .dark
    · rw [kind] at worked ⊢
      exact of_quiet worked.bank rfl
    · exact worked.of_profiles (State.complete_profiles kind _)
  · exact worked.of_profiles rfl

/-- Every command keeps the profile roles and the bound on the mode. -/
theorem taken {c : Instr} (inv : ProfileInv s) (taken : s.Taken c t) : ProfileInv t := by
  have concluded {u : State} (kept : ProfileInv u) : ProfileInv u.conclude := kept.of_profiles u.conclude_profiles
  induction taken with
  | reset => exact of_quiet BankInv.reset rfl
  | skipped => exact inv
  | answered reply => exact inv.of_profiles (s.finish_profiles _ _ _)
  | ruled ruled => exact (rule_profileInv _ _ ruled inv).of_profiles (State.finish_profiles _ _ _ _)
  | lineInactive _ ih => exact ih.of_profiles rfl
  | holdRequested => exact concluded (inv.of_profiles rfl)
  | holdGranted => exact inv.of_profiles (State.answerHold_profiles _)
  | holdExpiring => exact inv.of_profiles rfl
  | holdExpired => exact concluded (inv.of_profiles s.revokeHold_profiles)
  | clocked => exact concluded (inv.of_profiles rfl)
  | visited => exact concluded (inv.of_profiles (s.visit_profiles _))
  | walked => exact concluded ((inv.walked _).of_profiles rfl)
  | arrived => exact concluded (inv.of_profiles (s.arrive_profiles _ _))
  | graceEnded => exact concluded inv.expireGrace
  | dwellEnded => exact concluded (inv.of_profiles rfl)
  | trackLost => exact concluded (inv.of_profiles rfl)
  | carryLapsed => exact concluded (inv.of_profiles (s.demote_profiles _))
  | quietEnded => exact concluded (inv.of_profiles rfl)
  | released => exact inv.of_profiles rfl

end ProfileInv

/-- Settles O55: an idle step moves timers alone, and every command keeps the roles and the bound on the mode. -/
theorem bankAndCoverageStayBounded : Obligations.BankAndCoverageStayBounded := by
  intro s t bank coverage ran
  have inv : ProfileInv s := ⟨bank, coverage⟩
  have kept : ProfileInv t := by
    unfold step at ran
    split at ran
    · obtain rfl := Host.Outcome.next.inj ran
      exact inv.of_profiles rfl
    · rename_i rest _
      have queued : ProfileInv { s with pending := rest } := inv.of_profiles rfl
      exact queued.taken (exec_taken ran)
  exact ⟨kept.bank, kept.coverage⟩

end Sys2Proof.Machine
end

section
/-! What the profile requests answer and write: a slot opened, written, discarded, read and staged (O35, O36, O37). -/

namespace Sys2Proof.Machine

/-! ## Slots opened, discarded and read (R103, R107, R108) -/

theorem openProfileRule_refused {s : State}
    (refuses : (∃ j, (s.bank.slots.get j).role = .opened) ∨ ∀ j, (s.bank.slots.get j).role ≠ .free) (b : List Byte) :
    openProfileRule (some .openProfile) b s = (s, .refusal .wrongState) := by
  unfold openProfileRule
  dsimp only
  split
  · rfl
  · rename_i none_open
    obtain ⟨j, opened⟩ | used := refuses
    · exact absurd opened ((s.slotIn_none .opened).1 none_open j)
    · rw [(s.slotIn_none .free).2 used]

theorem openProfileRule_taken {s : State} {i : ProfileId} (none_open : ∀ j, (s.bank.slots.get j).role ≠ .opened)
    (free : (s.bank.slots.get i).role = .free) (lowest : ∀ j, j < i → (s.bank.slots.get j).role ≠ .free)
    (b : List Byte) :
    openProfileRule (some .openProfile) b s = (s.setSlot i (.cleared .opened), .ok (octets 1 i.val)) := by
  simp only [openProfileRule, (s.slotIn_none .opened).2 none_open, (s.slotIn_some .free i).2 ⟨free, lowest⟩]

theorem discardProfileRule_taken {s : State} {i : ProfileId}
    (discards : (s.bank.slots.get i).role = .opened ∨ (s.bank.slots.get i).role = .staged) (b : List Byte) :
    discardProfileRule (some (.discardProfile i)) b s = (s.setSlot i (.cleared .free), .ok (octets 1 i.val)) := by
  obtain role | role := discards <;> simp only [discardProfileRule, role] <;> rfl

theorem discardProfileRule_refused {s : State} {i : ProfileId} (keeps : (s.bank.slots.get i).role = .free
      ∨ (s.bank.slots.get i).role = .live ∨ (s.bank.slots.get i).role = .grace) (b : List Byte) :
    discardProfileRule (some (.discardProfile i)) b s = (s, .refusal .wrongState) := by
  obtain role | role | role := keeps <;> simp only [discardProfileRule, role]

/-- Settles O35: each rule where its request is taken, and where it is refused. -/
theorem profileSlotsServed : Obligations.ProfileSlotsServed := by
  intro s r m i p cleared
  refine ⟨fun serves => ⟨fun refuses => ?_, fun none_open free lowest => ?_⟩,
    fun serves => ⟨fun discards => ?_, fun keeps => ?_⟩, fun row serves => ?_⟩
  · exact exec_ruled serves rfl (openProfileRule_refused refuses m.body)
  · exact exec_ruled serves rfl (openProfileRule_taken none_open free lowest m.body)
  · exact exec_ruled serves rfl (discardProfileRule_taken discards m.body)
  · exact exec_ruled serves rfl (discardProfileRule_refused keeps m.body)
  · intro codes named
    refine exec_ruled (rule := readProfileRule) serves rfl (Prod.ext rfl (congrArg Reply.ok ?_))
    have lists : slotIds.flatMap (fun j => codeListOctets (p.candidates.get j)) =
        codes p.candidates.s0 ++ codes p.candidates.s1 ++ codes p.candidates.s2 ++ codes p.candidates.s3 := by
      simp [slotIds, codeListOctets, listOctets, codes, Four.get]
    unfold ProfileSlot.octets
    rw [lists]
    simp only [List.append_assoc]
    cases row <;> rfl

/-! ## The OPEN slot written (R104 to R106) -/

/-- The three write requests are refused where no slot is OPEN (R102). -/
theorem profileWrites_refused {s : State} (none_open : ∀ j, (s.bank.slots.get j).role ≠ .opened) {q : Request}
    (writes : q.kind = .writeProfileHeader ∨ q.kind = .writeTariffRow ∨ q.kind = .writeCandidates) (b : List Byte) :
    ∃ rule : Option Request → List Byte → State → State × Reply,
      exec q.kind.command s = .next (s.serve q.kind rule) ∧ rule (some q) b s = (s, .refusal .wrongState) := by
  have absent := (s.slotIn_none .opened).2 none_open
  cases q <;> simp only [Request.kind, reduceCtorEq, or_self] at writes
  case writeProfileHeader => exact ⟨writeProfileHeaderRule, rfl, by simp only [writeProfileHeaderRule, absent]⟩
  case writeTariffRow => exact ⟨writeTariffRowRule, rfl, by simp only [writeTariffRowRule, absent]⟩
  case writeCandidates => exact ⟨writeCandidatesRule, rfl, by simp only [writeCandidatesRule, absent]⟩

/-- What is kept behind the codes seen is what is left of a list without them, each code once. -/
theorem dropRepeats_eq (seen list : List Nat) :
    dropRepeats seen list = (list.filter (fun c => !seen.contains c)).eraseDups := by
  induction list generalizing seen with
  | nil => rfl
  | cons c rest ih =>
    unfold dropRepeats
    by_cases known : seen.contains c = true
    · simp only [known, if_true, List.filter_cons, Bool.not_true, Bool.false_eq_true, if_false, ih]
    · have behind : rest.filter (fun x => !(seen ++ [c]).contains x)
          = (rest.filter (fun x => !seen.contains x)).filter (fun x => !x == c) := by
        rw [List.filter_filter]
        congr 1
        funext x
        grind
      simp only [known, List.filter_cons, Bool.not_false, if_true, Bool.false_eq_true, if_false, ih,
        List.eraseDups_cons, behind]

/-- The candidate list applied (R106). -/
theorem appliedCandidates_eq (codes : List Nat) :
    appliedCandidates codes = ((codes.map (min · 999999)).eraseDups).take 6 := by
  unfold appliedCandidates
  rw [dropRepeats_eq]
  simp [Config.maxCode, Config.candidateCount]

/-- Settles O36: the refusals, and the OPEN slot as each request leaves it. -/
theorem profileWritesServed : Obligations.ProfileWritesServed := by
  intro s r m q serves
  refine ⟨fun none_open writes => ?_, fun i opened lowest => ?_⟩
  · obtain ⟨rule, command, refused⟩ := profileWrites_refused none_open writes m.body
    exact exec_ruled serves command refused
  · have found := (s.slotIn_some .opened i).2 ⟨opened, lowest⟩
    intro p
    refine ⟨?_, ?_, ?_⟩
    · rintro zone permit eligible park grace rfl
      exact exec_ruled (rule := writeProfileHeaderRule) serves rfl (by simp only [writeProfileHeaderRule, found]; rfl)
    · rintro plan column b pd pv increment minimum rfl
      refine ⟨fun unranged => ?_, fun low high => ?_⟩
      · exact exec_ruled (rule := writeTariffRowRule) serves rfl
          (by simp only [writeTariffRowRule, found, unranged, if_true]; rfl)
      · intro increment' minimum' k rows
        have ranged : ¬(b < 256 ∨ 1048576 < b) := by omega
        have carried : TariffRow.carried b pd pv increment minimum = ⟨b, pd, pv, increment', minimum', true⟩ := by
          simp only [TariffRow.carried, increment', minimum']
          congr 1
          split <;> omega
        have place : rowIndex plan column = k := by cases column <;> rfl
        refine exec_ruled (rule := writeTariffRowRule) serves rfl ?_
        simp only [writeTariffRowRule, found, ranged, if_false, carried, ProfileSlot.setRow, place]
        exact Prod.ext rfl (congrArg Reply.ok (by simp only [TariffRow.octets, List.append_assoc]; rfl))
    · rintro slot codes rfl list
      have applied : appliedCandidates codes = list := appliedCandidates_eq codes
      refine exec_ruled (rule := writeCandidatesRule) serves rfl ?_
      simp only [writeCandidatesRule, found, applied]
      exact Prod.ext rfl (congrArg Reply.ok (by simp only [codeListOctets, listOctets, List.append_assoc]))

/-! ## The OPEN slot staged (R109 to R111) -/

/-- The slots that a staging frees, as the answer carries them. -/
theorem slotSet_stagingFrees {s : State} (inv : BankInv s.bank) (zone : Nat) :
    let frees := fun (j : ProfileId) => decide ((s.bank.slots.get j).role = .staged
      ∨ ((s.bank.slots.get j).role = .grace ∧ (s.bank.slots.get j).zone = zone))
    slotSet (s.stagingFrees zone) = setOctet ⟨frees 0, frees 1, frees 2, frees 3⟩ := by
  have member (j : ProfileId) : (s.stagingFrees zone).contains j = decide ((s.bank.slots.get j).role = .staged
      ∨ ((s.bank.slots.get j).role = .grace ∧ (s.bank.slots.get j).zone = zone)) := by
    rw [List.contains_eq_mem]
    exact decide_eq_decide.2 (State.mem_stagingFrees inv zone j)
  simp only [slotSet, member]

theorem stageProfileRule_faulty {s : State} {i : ProfileId} (found : s.slotIn .opened = some i)
    (faulty : s.stagingFaults (s.bank.slots.get i) ≠ 0) (b : List Byte) :
    stageProfileRule (some .stageProfile) b s = (s, ⟨.badProfile,
      octets 1 (s.stagingFaults (s.bank.slots.get i)) ++ octets 1 (s.bank.slots.get i).rowsWritten⟩) := by
  simp only [stageProfileRule, found, faulty, ne_eq, not_false_eq_true, if_true]

/-- A staging taken, with the promotion at once where the zone is the present zone (R111). -/
theorem stageProfileRule_taken {s t : State} {i : ProfileId} (found : s.slotIn .opened = some i)
    (faultless : s.stagingFaults (s.bank.slots.get i) = 0) {promoted : Bool}
    (here : decide ((s.bank.slots.get i).zone = s.bank.presentZone) = promoted)
    (left : (if promoted then (s.stage i).promote i else s.stage i) = t) (b : List Byte) :
    stageProfileRule (some .stageProfile) b s = (t, .ok (octets 1 i.val ++ octets 2 (s.bank.slots.get i).zone
      ++ octets 1 (slotSet (s.stagingFrees (s.bank.slots.get i).zone)) ++ octets 1 (flagOctet promoted)
      ++ octets 1 t.liveSlot.val ++ optOctets 1 ((t.slotIn .grace).map (·.val)))) := by
  simp only [stageProfileRule, found, faultless, ne_eq, not_true, if_false, here, left]
  rfl

/-- Settles O37: the faults of R109, the bank that a staging leaves, and the promotion at once. -/
theorem stageProfileServed : Obligations.StageProfileServed := by
  intro s r m inv serves
  refine ⟨fun none_open => ?_, fun i opened => ?_⟩
  · exact exec_ruled (rule := stageProfileRule) serves rfl
      (by simp only [stageProfileRule, (s.slotIn_none .opened).2 none_open]; rfl)
  · intro p written faults frees slot staged answer
    have found := State.slotIn_only inv (by decide) opened
    have told : s.stagingFaults p = faults := s.stagingFaults_eq p
    have slots : slot = s.bank.stagedSlot i := by
      funext j
      by_cases same : j = i
      · simp only [slot, Bank.stagedSlot, same, if_true]
        rfl
      · simp only [slot, frees, Bank.stagedSlot, same, if_false, decide_eq_true_eq]
        rfl
    have left : s.stage i = staged := by
      rw [State.stage_eq inv opened, Bank.stage, ← slots]
    refine ⟨fun faulty => ?_, fun faultless away => ?_, fun faultless here => ?_⟩
    · have done := stageProfileRule_faulty found (told.trans_ne faulty) m.body
      rw [told] at done
      exact exec_ruled serves rfl done
    · have done := stageProfileRule_taken found (told.trans faultless) (decide_eq_false away) left m.body
      rw [slotSet_stagingFrees inv] at done
      exact exec_ruled serves rfl done
    · have done := stageProfileRule_taken found (told.trans faultless) (decide_eq_true here)
        (congrArg (State.promote · i) left) m.body
      rw [slotSet_stagingFrees inv] at done
      exact exec_ruled serves rfl done

end Sys2Proof.Machine
end

section
/-! A promotion, what the new LIVE profile does to a link slot, the entry into a zone and the grace expiry (O38,
O39). -/

namespace Sys2Proof.Machine

/-! ## The new LIVE profile and one link slot (R149) -/

theorem LinkSlot.dwellMicros_eq (l : LinkSlot) : l.dwellMicros = l.scanDwell * 100000 := Nat.mul_assoc _ _ _

/-- A slot at the top of a list (R138, R150). -/
theorem LinkSlot.toTop_eq (l : LinkSlot) (list : List Nat) (run : RunState) : l.toTop list run = { l with
    cursor := 0, dwell := if list ≠ [] ∧ run = .running then some (l.scanDwell * 100000) else none } := by
  rw [← l.dwellMicros_eq]
  rfl

section ZoneChange

variable {s : State} {i : LinkId}

theorem State.zoneChange_off (off : (s.link i).state = .off) : s.zoneChange i = s := by
  simp only [State.zoneChange, off]

/-- A slot that is not SHORE reads no candidate list, so that a new profile leaves it in SCAN or TRACK as it is. -/
theorem State.zoneChange_sat (other : (s.link i).kind ≠ .shore) (uncarried : (s.link i).state ≠ .carry) :
    s.zoneChange i = s := by
  unfold State.zoneChange
  dsimp only
  split
  · rfl
  · exact if_neg other
  · exact if_neg other
  · rename_i carrying
    exact absurd carrying uncarried

theorem State.zoneChange_scan (scanning : (s.link i).state = .scan) (shore : (s.link i).kind = .shore) :
    s.zoneChange i = s.setLink i ((s.link i).toTop (s.candidates i) s.runState) := by
  simp only [State.zoneChange, scanning, shore, if_true]

theorem State.zoneChange_track {operator : Nat} (tracking : (s.link i).state = .track)
    (shore : (s.link i).kind = .shore) (tracked : (s.link i).tracked = some operator) :
    s.zoneChange i =
      if (s.candidates i).contains operator then
        s.setLink i { s.link i with cursor := (s.candidates i).idxOf operator }
      else (s.setLink i ((s.link i).toScan (s.candidates i) s.runState)).raiseLinkLost i := by
  simp only [State.zoneChange, tracking, shore, tracked, if_true]

theorem State.zoneChange_carry (carrying : (s.link i).state = .carry) :
    s.zoneChange i = if s.eligible i then s else (s.demote i).raiseLapsed i := by
  simp only [State.zoneChange, carrying]

end ZoneChange

/-! ## A promotion (R111, R113, R114) -/

section Promotion

variable {s : State} {i l : ProfileId}

/-- The new grace deadline lies ahead: the slot that was LIVE is GRACE. -/
theorem State.exchangeRoles_running (inv : BankInv s.bank)
    (named : (s.bank.slots.get i).role = .staged ∨ (s.bank.slots.get i).role = .grace) {deadline : Nat}
    (set : min (s.clock + (s.bank.slots.get i).graceWindow) Config.maxClock = deadline) (ahead : ¬deadline ≤ s.clock) :
    s.exchangeRoles i = { s with bank := s.bank.exchange i deadline } := by
  subst set
  exact (State.exchangeRoles_eq inv named).trans (if_neg ahead)

/-- The new grace deadline is reached at once: the slot that was LIVE is FREE, with GRACE_ENDED. -/
theorem State.exchangeRoles_due (inv : BankInv s.bank)
    (named : (s.bank.slots.get i).role = .staged ∨ (s.bank.slots.get i).role = .grace)
    (live : (s.bank.slots.get l).role = .live) {deadline : Nat}
    (set : min (s.clock + (s.bank.slots.get i).graceWindow) Config.maxClock = deadline) (due : deadline ≤ s.clock) :
    s.exchangeRoles i = { s with
      bank := { s.bank.exchange i deadline with
        slots := (s.bank.exchange i deadline).slots.set l (.cleared .free), graceDeadline := none }
      events := { s.events with
        pendingSet := s.events.pendingSet ||| 1024#17
        details := { s.events.details with graceZone := (s.bank.slots.get l).zone } } } := by
  have exchanged := State.exchangeRoles_eq inv named
  simp only [set, due, if_true] at exchanged
  have other := Bank.live_ne live named
  have left : (s.bank.exchange i deadline).slots.get l = { s.bank.slots.get l with role := .grace } := by
    simp [Bank.exchanged, other, live]
  rw [exchanged, State.expireGrace_eq (s := { s with bank := s.bank.exchange i deadline })
    (inv.exchange named deadline) (congrArg ProfileSlot.role left), left]

end Promotion

/-- Settles O38: the exchange of roles, with the slot that was LIVE in GRACE or FREE, and the four link states. -/
theorem promotionExchangesRoles : Obligations.PromotionExchangesRoles := by
  refine ⟨fun s i inv named => ?_, fun s i => ?_⟩
  · intro deadline slot bank t
    suffices left : s.exchangeRoles i = t by
      rw [State.promote, left]
      rfl
    obtain ⟨l, live, -, liveProfile⟩ := State.live_eq inv
    by_cases due : deadline ≤ s.clock
    · have slots : (s.bank.exchange i deadline).slots.set l (.cleared .free) = ⟨slot 0, slot 1, slot 2, slot 3⟩ := by
        have other := Bank.live_ne live named
        refine Four.ext_get fun j => ?_
        have only := inv.holder (i := j) (j := l) (role := .live) (by decide)
        rw [Four.get_mk slot, Four.get_set, Bank.exchange_get]
        simp only [Bank.exchanged, slot, due, if_true]
        grind
      rw [State.exchangeRoles_due inv named live rfl due, ← liveProfile]
      simp only [t, bank, due, if_true, ← slots]
      rfl
    · have slots : slot = s.bank.exchanged i := by
        funext j
        simp only [slot, due, if_false]
        rfl
      rw [State.exchangeRoles_running inv named rfl due]
      simp only [t, bank, due, if_false, slots]
      rfl
  · intro l scan track
    refine ⟨fun kept => ?_, fun scanning shore => ?_, fun operator tracking shore tracked => ?_,
      fun carrying eligible => ?_, fun carrying ineligible => ?_⟩
    · obtain off | ⟨other, uncarried⟩ := kept
      · exact State.zoneChange_off off
      · exact State.zoneChange_sat other uncarried
    · rw [State.zoneChange_scan scanning shore, LinkSlot.toTop_eq]
    · rw [State.zoneChange_track tracking shore tracked]
      refine ⟨fun before after listed absent => ?_, fun unlisted => ?_⟩
      · have held : (s.candidates i).contains operator = true := by simp [listed]
        have place : (s.candidates i).idxOf operator = before.length := by
          rw [listed, List.idxOf_append_of_notMem absent, List.idxOf_cons_self, Nat.add_zero]
        rw [if_pos held, place]
      · have gone : ¬(s.candidates i).contains operator = true := by simpa using unlisted
        rw [if_neg gone, LinkSlot.toScan, LinkSlot.toTop_eq]
        rfl
    · rw [State.zoneChange_carry carrying, if_pos eligible]
    · rw [State.zoneChange_carry carrying, if_neg (by simp [ineligible])]
      rfl

/-! ## The entry into a zone (R112 to R115) -/

theorem State.expireGrace_presentZone (s : State) : s.expireGrace.bank.presentZone = s.bank.presentZone := by
  unfold State.expireGrace
  split <;> rfl

theorem State.handOver_bank (s : State) : s.handOver.bank = s.bank := by
  have recomputed : s.recompute.1.bank = s.bank := by rw [s.recompute_frame]
  have acted : s.handOver.profiles = s.recompute.1.profiles := (State.linkClosed_profiles _).zoneChanges slotIds rfl
  exact (congrArg Prod.fst acted).trans recomputed

/-- A promotion leaves the present zone. -/
theorem State.promote_presentZone {s : State} (inv : BankInv s.bank) {i : ProfileId}
    (named : (s.bank.slots.get i).role = .staged ∨ (s.bank.slots.get i).role = .grace) :
    (s.promote i).bank.presentZone = s.bank.presentZone := by
  rw [State.promote, State.handOver_bank, State.exchangeRoles_eq inv named]
  split
  · exact State.expireGrace_presentZone _
  · rfl

section Entry

variable {s : State} {zone : Nat}

theorem State.entryCase_live (present : zone = s.live.zone) : s.entryCase zone = (.unchanged, none) := by
  rw [State.entryCase, if_pos present]

/-- The zones of the STAGED and the GRACE slot are not the LIVE zone (R99). -/
theorem BankInv.zone_ne_live (inv : BankInv s.bank) {i : ProfileId}
    (named : (s.bank.slots.get i).role = .staged ∨ (s.bank.slots.get i).role = .grace) :
    (s.bank.slots.get i).zone ≠ s.live.zone := by
  obtain ⟨l, live, -, liveProfile⟩ := State.live_eq inv
  rw [liveProfile]
  exact inv.liveZone l i live named

theorem State.entryCase_of_staged (inv : BankInv s.bank) {i : ProfileId}
    (staged : (s.bank.slots.get i).role = .staged) : s.entryCase (s.bank.slots.get i).zone = (.staged, some i) := by
  have known : s.zoneIn .staged = some (s.bank.slots.get i).zone :=
    (State.zoneIn_iff inv (by decide) _).2 ⟨i, staged, rfl⟩
  rw [State.entryCase, if_neg (inv.zone_ne_live (.inl staged)), if_pos known, State.slotIn_only inv (by decide) staged]

theorem State.entryCase_of_grace (inv : BankInv s.bank) {i : ProfileId} (grace : (s.bank.slots.get i).role = .grace) :
    s.entryCase (s.bank.slots.get i).zone = (.returned, some i) := by
  have known : s.zoneIn .grace = some (s.bank.slots.get i).zone :=
    (State.zoneIn_iff inv (by decide) _).2 ⟨i, grace, rfl⟩
  have unstaged : s.zoneIn .staged ≠ some (s.bank.slots.get i).zone := fun named => by
    obtain ⟨j, staged, same⟩ := (State.zoneIn_iff inv (by decide) _).1 named
    exact inv.stagedZone j i staged grace same.symm
  rw [State.entryCase, if_neg (inv.zone_ne_live (.inr grace)), if_neg unstaged, if_pos known,
    State.slotIn_only inv (by decide) grace]

theorem State.entryCase_unplanned (inv : BankInv s.bank) (left : zone ≠ s.live.zone)
    (unknown : ∀ i, (s.bank.slots.get i).role = .staged ∨ (s.bank.slots.get i).role = .grace →
      (s.bank.slots.get i).zone ≠ zone) : s.entryCase zone = (.unplanned, none) := by
  have unstaged : s.zoneIn .staged ≠ some zone := fun named => by
    obtain ⟨j, staged, same⟩ := (State.zoneIn_iff inv (by decide) _).1 named
    exact unknown j (.inl staged) same
  have ungraced : s.zoneIn .grace ≠ some zone := fun named => by
    obtain ⟨j, grace, same⟩ := (State.zoneIn_iff inv (by decide) _).1 named
    exact unknown j (.inr grace) same
  rw [State.entryCase, if_neg left, if_neg unstaged, if_neg ungraced]

theorem State.enterZone_unchanged (taken : s.entryCase zone = (.unchanged, none)) :
    s.enterZone zone = { s with bank := { s.bank with presentZone := zone } } := by
  simp only [State.enterZone, taken]

theorem State.enterZone_promotes {i : ProfileId}
    (taken : s.entryCase zone = (.staged, some i) ∨ s.entryCase zone = (.returned, some i)) :
    s.enterZone zone = { s with bank := { s.bank with presentZone := zone } }.promote i := by
  obtain taken | taken := taken <;> simp only [State.enterZone, taken]

theorem State.enterZone_missing (taken : s.entryCase zone = (.unplanned, none)) :
    s.enterZone zone = { s with bank := { s.bank with presentZone := zone } }.raiseMissing zone := by
  simp only [State.enterZone, taken]

/-- ENTER_ZONE by its case, the present zone being the zone entered. -/
theorem enterZoneRule_eq {t : State} {c : EntryCase} {o : Option ProfileId} (taken : s.entryCase zone = (c, o))
    (left : s.enterZone zone = t) (present : t.bank.presentZone = zone) (b : List Byte) :
    enterZoneRule (some (.enterZone zone)) b s = (t, ⟨if c = .unchanged then .unchanged else .ok,
      octets 1 c.code ++ octets 2 zone ++ octets 1 t.liveSlot.val ++ octets 2 t.live.zone
        ++ optOctets 1 ((t.slotIn .grace).map (·.val)) ++ optOctets 2 (t.zoneIn .grace)
        ++ optOctets 4 t.bank.graceDeadline ++ optOctets 1 ((t.slotIn .staged).map (·.val))
        ++ optOctets 2 (t.zoneIn .staged) ++ octets 1 t.coverage.mode.code⟩) := by
  simp only [enterZoneRule, taken, left, State.entryFields, present]
  rfl

end Entry

/-- Settles O39: the four cases of an entry, which exclude one another, and the grace expiry. -/
theorem zonesEntered : Obligations.ZonesEntered := by
  refine fun s inv => ⟨fun r m z serves => ?_, fun i d grace deadline due => ?_⟩
  · intro t answer missing
    have entered : BankInv t.bank := inv.presentZone z
    have promoted {i : ProfileId} (named : (s.bank.slots.get i).role = .staged ∨ (s.bank.slots.get i).role = .grace) :
        (t.promote i).bank.presentZone = z := State.promote_presentZone entered named
    refine ⟨fun present => ?_, fun i staged zone => ?_, fun i grace zone => ?_, fun away unknown => ?_⟩
    · have taken := State.entryCase_live present
      exact exec_ruled serves rfl (enterZoneRule_eq taken (State.enterZone_unchanged taken) rfl m.body)
    · have taken := zone ▸ State.entryCase_of_staged inv staged
      exact exec_ruled serves rfl
        (enterZoneRule_eq taken (State.enterZone_promotes (.inl taken)) (promoted (.inl staged)) m.body)
    · have taken := zone ▸ State.entryCase_of_grace inv grace
      exact exec_ruled serves rfl
        (enterZoneRule_eq taken (State.enterZone_promotes (.inr taken)) (promoted (.inr grace)) m.body)
    · have taken := State.entryCase_unplanned inv away unknown
      exact exec_ruled serves rfl (enterZoneRule_eq taken (State.enterZone_missing taken) rfl m.body)
  · have found := State.slotIn_only inv (by decide) grace
    have reached : s.reached s.bank.graceDeadline = true := by simpa [deadline, State.reached] using due
    have ended : exec .graceExpiry s = .next s.expireGrace.conclude :=
      congrArg Host.Outcome.next (if_pos ⟨by rw [found]; rfl, reached⟩)
    rw [ended, State.expireGrace_eq inv grace]

end Sys2Proof.Machine
end

section
/-! The recomputation of the coverage mode, and SET_CEILING (O40). -/

namespace Sys2Proof.Machine

/-! ## The target (R120) -/

theorem quieter_eq (a b : Permit) : quieter a b =
    if a = .dark ∨ b = .dark then .dark else if a = .quiet ∨ b = .quiet then .quiet else .serve := by
  cases a <;> cases b <;> rfl

/-- The mode of a target's name (R119). -/
def Permit.mode : Permit → Mode
  | .serve => .serve
  | .quiet => .quiet
  | .dark => .dark

/-! ## The recomputation (R122) -/

section Recompute
variable {s : State}

theorem State.recompute_ordered (dark : s.target = .dark) (loud : s.coverage.mode = .serve ∨ s.coverage.mode = .quiet) :
    s.recompute = ((s.setMode .darkening).order .dark, .ordered) := by
  obtain mode | mode := loud <;> simp only [State.recompute, dark, mode]

theorem State.recompute_continuing (dark : s.target = .dark) (mode : s.coverage.mode = .darkening) :
    s.recompute = (s, .continuing) := by
  simp only [State.recompute, dark, mode]

theorem State.recompute_cancelled (light : s.target ≠ .dark) (mode : s.coverage.mode = .darkening) :
    s.recompute = (s.cancelDark.setMode s.target.mode, .cancelled) := by
  cases target : s.target with
  | dark => exact absurd target light
  | serve | quiet => simp only [State.recompute, target, mode, Permit.mode]

/-- A mode that is its target's stands, DARK under DARK too. -/
theorem State.recompute_stands (stands : s.coverage.mode = s.target.mode) : s.recompute = (s, .none) := by
  cases target : s.target <;> simp only [State.recompute, stands, target, Permit.mode]

theorem State.recompute_taken (light : s.target ≠ .dark) (ended : s.coverage.mode ≠ .darkening)
    (away : s.coverage.mode ≠ s.target.mode) : s.recompute = (s.setMode s.target.mode, .none) := by
  cases target : s.target with
  | dark => exact absurd target light
  | serve | quiet =>
    cases mode : s.coverage.mode with
    | darkening => exact absurd mode ended
    | serve | quiet | dark => simp [State.recompute, target, mode, Permit.mode] at away ⊢

end Recompute

/-! ## SET_CEILING (R121) -/

theorem setCeilingRule_unchanged {s : State} {ceiling : Permit} (same : ceiling = s.coverage.ceiling) (b : List Byte) :
    setCeilingRule (some (.setCeiling ceiling)) b s = (s, ⟨.unchanged, s.ceilingFields s.darkStanding⟩) :=
  if_pos same

theorem setCeilingRule_taken {s t : State} {ceiling : Permit} (differs : ceiling ≠ s.coverage.ceiling)
    (set : { s with coverage := { s.coverage with ceiling := ceiling } } = t) (b : List Byte) :
    setCeilingRule (some (.setCeiling ceiling)) b s =
      (t.recompute.1, ⟨.ok, t.recompute.1.ceilingFields t.recompute.2⟩) :=
  set ▸ if_neg differs

/-- Settles O40: the seven cases of the recomputation, and the two of SET_CEILING. -/
theorem ceilingAndRecomputation : Obligations.CeilingAndRecomputation := by
  intro s changed named target darkening
  have formed : s.target = target := quieter_eq s.live.permit s.coverage.ceiling
  clear_value target
  subst formed
  have name (p : Permit) : named p = p.mode := by cases p <;> rfl
  refine ⟨rfl, State.recompute_ordered, State.recompute_continuing, fun dark mode => ?_,
    fun light mode => ?_, fun _ stands => ?_, fun light ended away => ?_, fun r m ceiling serves => ⟨?_, ?_⟩⟩
  · exact State.recompute_stands (by rw [mode, dark]; rfl)
  · rw [name]; exact State.recompute_cancelled light mode
  · exact State.recompute_stands (stands.trans (name _))
  · rw [name] at away ⊢; exact State.recompute_taken light ended away
  · exact fun same => exec_ruled serves rfl (setCeilingRule_unchanged same m.body)
  · exact fun differs => exec_ruled serves rfl (setCeilingRule_taken differs rfl m.body)

end Sys2Proof.Machine
end

section
/-! SUPPORT. Everything that the invariant of the link slots reads: the link slots, the profile bank and the run state
(`State.linkage`). The operations and the rules of request kinds that leave all three. -/

namespace Sys2Proof.Machine

/-- The link slots, the profile bank and the run state: everything that `LinkInv` reads. -/
def State.linkage (s : State) : Four LinkSlot × Bank × RunState := (s.links, s.bank, s.runState)

namespace State

/-- A slot, the LIVE profile and the run state are read from the linkage alone. -/
theorem of_linkage {s t : State} (same : t.linkage = s.linkage) :
    t.link = s.link ∧ t.live = s.live ∧ t.runState = s.runState := by
  obtain ⟨links, rest⟩ := Prod.mk.inj same
  obtain ⟨bank, run⟩ := Prod.mk.inj rest
  refine ⟨?_, ?_, run⟩
  · funext i
    simp only [State.link, links]
  · simp only [State.live, State.liveSlot, State.slotIn, bank]

/-! ## Shared operations -/

@[simp] theorem raise_linkage (s : State) (e : Event) (d : Details) : (s.raise e d).linkage = s.linkage := rfl

@[simp] theorem order_linkage (s : State) (k : WalkKind) : (s.order k).linkage = s.linkage := rfl

@[simp] theorem nextWalk_linkage (s : State) : s.nextWalk.linkage = s.linkage := rfl

@[simp] theorem send_linkage (s : State) (a : Answer) : (s.send a).linkage = s.linkage := rfl

@[simp] theorem commit_linkage (s : State) (h : Handle) (c : Context) : (s.commit h c).linkage = s.linkage := by
  rw [s.commit_frame]
  rfl

@[simp] theorem dropShift_linkage (s : State) : s.dropShift.linkage = s.linkage := by
  rw [s.dropShift_frame]
  rfl

@[simp] theorem joinLost_linkage (s : State) (i : LinkId) : (s.joinLost i).linkage = s.linkage := by
  rw [s.joinLost_frame]
  rfl

@[simp] theorem orderUnpark_linkage (s : State) : s.orderUnpark.linkage = s.linkage := by
  unfold State.orderUnpark
  split <;> rfl

@[simp] theorem recompute_linkage (s : State) : s.recompute.1.linkage = s.linkage := by
  rw [s.recompute_frame]
  rfl

@[simp] theorem clearVoyage_linkage (s : State) : s.clearVoyage.linkage = s.linkage := by
  rw [s.clearVoyage_eq]
  rfl

@[simp] theorem tellReport_linkage (s : State) (h : Handle) (tags : List Byte) (met : Bool) :
    (s.tellReport h tags met).linkage = s.linkage := by
  rw [← Bool.decide_coe met, s.tellReport_eq]
  rfl

@[simp] theorem retireContext_linkage (s : State) (h : Handle) : (s.retireContext h).linkage = s.linkage := by
  unfold State.retireContext
  split <;> simp

@[simp] theorem disableQueue_linkage (s : State) (r : RequesterId) (queue : List Message) :
    (s.disableQueue r queue).linkage = s.linkage := by
  unfold State.disableQueue
  induction queue generalizing s with
  | nil => rfl
  | cons m rest ih => exact ih (s.send ⟨r, m.kind, m.tag, .disabled, []⟩)

/-! ## The ends of services and events -/

@[simp] theorem endHold_linkage (s : State) : s.endHold.linkage = s.linkage := by
  rw [s.endHold_eq]
  rfl

@[simp] theorem revokeHold_linkage (s : State) : s.revokeHold.linkage = s.linkage := s.endHold_linkage

@[simp] theorem conclude_linkage (s : State) : s.conclude.linkage = s.linkage := by
  rw [s.conclude_frame]
  rfl

@[simp] theorem grantAtOnce_linkage (s : State) : s.grantAtOnce.linkage = s.linkage := by
  rw [s.grantAtOnce_frame]
  rfl

@[simp] theorem releaseEngine_linkage (s : State) (r : RequesterId) : (s.releaseEngine r).linkage = s.linkage := by
  unfold State.releaseEngine
  dsimp only
  split <;> rfl

@[simp] theorem takeDueExpiry_linkage (s : State) : s.takeDueExpiry.linkage = s.linkage := by
  unfold State.takeDueExpiry
  split
  · exact s.revokeHold_linkage
  · rfl

@[simp] theorem finish_linkage (s : State) (r : RequesterId) (m : Message) (reply : Reply) :
    (s.finish r m reply).linkage = s.linkage := by
  simp [State.finish]

@[simp] theorem answerHold_linkage (s : State) : s.answerHold.linkage = s.linkage := by
  unfold State.answerHold
  (repeat' split) <;> simp

@[simp] theorem arrive_linkage (s : State) (r : RequesterId) (m : Message) : (s.arrive r m).linkage = s.linkage := by
  unfold State.arrive
  dsimp only
  (repeat' split) <;> rfl

/-! ## The sweep's visit and the walk steps -/

@[simp] theorem visit_linkage (s : State) (h : Handle) : (s.visit h).linkage = s.linkage := by
  unfold State.visit
  dsimp only
  (repeat' split) <;> simp [State.raiseRetired]

/-- A walk's work at a handle is at most one write of its context, and a count. -/
@[simp] theorem work_linkage (k : WalkKind) (h : Handle) (s : State) : (k.work h s).linkage = s.linkage := by
  cases k with
  | failover =>
    change (s.failoverWork h).linkage = _
    unfold State.failoverWork
    dsimp only
    split
    · split
      · split <;> exact s.commit_linkage _ _
      · rfl
    all_goals rfl
  | shift =>
    change (s.shiftWork h).linkage = _
    unfold State.shiftWork
    dsimp only
    split
    · rfl
    · split
      · exact s.commit_linkage _ _
      · rfl
  | unpark =>
    change (s.unparkWork h).linkage = _
    unfold State.unparkWork
    dsimp only
    (repeat' split) <;> simp
  | dark =>
    change (s.darkWork h).linkage = _
    unfold State.darkWork
    (repeat' split) <;> simp

@[simp] theorem complete_linkage (k : WalkKind) (s : State) : (k.complete s).linkage = s.linkage := by
  cases k with
  | failover =>
    change s.failoverComplete.linkage = _
    unfold State.failoverComplete
    dsimp only
    split <;> rfl
  | shift => rfl
  | unpark => rfl
  | dark => rfl

@[simp] theorem walked_linkage (s : State) (w : Walk) : (s.walked w).linkage = s.linkage := by
  have worked : (w.kind.work w.cursor s).linkage = s.linkage := work_linkage _ _ s
  unfold State.walked
  dsimp only
  split
  · exact (complete_linkage _ _).trans worked
  · exact worked

end State

/-! ## The rules of the request kinds -/

/-- The kinds whose rule may change a link slot, a profile slot, the present zone or the run state. -/
def Kind.writesLinkage (k : Kind) : Bool :=
  [Kind.openProfile, .writeProfileHeader, .writeTariffRow, .writeCandidates, .discardProfile, .stageProfile, .enterZone,
    .configureLink, .probeResult, .openLink, .closeLink, .start].contains k

/-- Every other rule gives the state as it was, or one of the operations above on it. -/
theorem rule_linkage {k : Kind} {rule : Option Request → List Byte → State → State × Reply}
    (ruled : k.rule = some rule) (leaves : k.writesLinkage = false) (q : Option Request) (b : List Byte) (s : State) :
    (rule q b s).1.linkage = s.linkage := by
  cases k
  case holdStore => cases ruled
  all_goals obtain rfl := Option.some.inj ruled
  case attach | lookup | lookupHandle | openBearer | closeBearer | retire | admitContext | refuse | nextProbation |
      nextSettlement | settleContext | addAllowance | removeAllowance | setCap | setPlan | releaseStore | readProfile
      | readRoute | abortShift | readEvents | readStatus | clearVoyage =>
    simp only [attachRule, lookupRule, lookupHandleRule, openBearerRule, closeBearerRule, retireRule,
      admitContextRule, refuseRule, nextProbationRule, nextSettlementRule, settleContextRule, addAllowanceRule,
      removeAllowanceRule, setCapRule, setPlanRule, releaseStoreRule, readProfileRule, readRouteRule, abortShiftRule,
      readEventsRule, readStatusRule, clearVoyageRule]
    (repeat' split) <;> simp
  case clearRoute | shift | setEventMask | ackEvents | setLimits =>
    simp only [clearRouteRule, shiftRule, setEventMaskRule, ackEventsRule, setLimitsRule]
    (repeat' split) <;> rfl
  case setCeiling =>
    unfold setCeilingRule
    repeat' split
    · rfl
    · exact State.recompute_linkage _
    · rfl
  case detach =>
    unfold detachRule
    repeat' split
    · rfl
    · exact s.retireContext_linkage _
    · rfl
  case reportUsage =>
    unfold reportUsageRule
    dsimp only
    split
    · split
      · rfl
      · exact (State.tellReport_linkage (s.commit _ _) _ _ _).trans (s.commit_linkage _ _)
    · rfl
  case setRoute =>
    unfold setRouteRule
    dsimp only
    repeat' split
    · exact State.orderUnpark_linkage _
    · rfl
    · exact State.orderUnpark_linkage _
    · rfl
  case configureRequester =>
    unfold configureRequesterRule
    split
    · exact s.disableQueue_linkage _ _
    · rfl
  all_goals exact absurd leaves (by decide)

end Sys2Proof.Machine
end

section
/-! SUPPORT. A link slot as R132 to R138 and R150 say (`LinkSlot.Ok`): its link state's fields, state by state, and what
keeps it so under each operation on one slot. -/

namespace Sys2Proof.Machine

namespace LinkSlot

variable {l : LinkSlot} {list : List Nat} {run : RunState}

/-! ## The link state's fields, state by state -/

theorem stateOk_off (off : l.state = .off) : l.stateOk list run = true ↔
    l.cursor = 0 ∧ l.tracked = none ∧ l.quality = none ∧ l.demoteCounter = 0 ∧ l.dwell = none ∧ l.trackMonitor = none
      ∧ l.carryMonitor = none := by
  simp [stateOk, off, and_assoc]

theorem stateOk_scan (scanning : l.state = .scan) : l.stateOk list run = true ↔
    l.kind ≠ .unused ∧ l.tracked = none ∧ l.quality = none ∧ l.demoteCounter = 0
      ∧ (l.dwell.isSome = true ↔ list ≠ [] ∧ run = .running) ∧ l.trackMonitor = none ∧ l.carryMonitor = none
      ∧ (l.cursor = 0 ∨ l.cursor < list.length) := by
  have dwells (b : Bool) : b = (decide (list ≠ []) && decide (run = .running)) ↔
      (b = true ↔ list ≠ [] ∧ run = .running) := by
    rw [Bool.eq_iff_iff]
    simp
  simp only [stateOk, scanning, Bool.and_eq_true, Bool.or_eq_true, decide_eq_true_eq, Option.isNone_iff_eq_none,
    dwells, and_assoc]

theorem stateOk_track (tracking : l.state = .track) : l.stateOk list run = true ↔
    l.kind ≠ .unused ∧ l.tracked.isSome = true ∧ l.quality.isSome = true ∧ l.demoteCounter = 0 ∧ l.dwell = none
      ∧ l.trackMonitor.isSome = true ∧ l.carryMonitor = none := by
  simp [stateOk, tracking, and_assoc]

theorem stateOk_carry (carrying : l.state = .carry) : l.stateOk list run = true ↔
    l.kind ≠ .unused ∧ l.tracked.isSome = true ∧ l.quality.isSome = true ∧ l.demoteCounter ≤ 14 ∧ l.dwell = none
      ∧ l.trackMonitor = none ∧ l.carryMonitor.isSome = true := by
  simp [stateOk, carrying, and_assoc]

/-- A slot in any link state but OFF has a kind (R132). -/
theorem kind_of_stateOk (ok : l.stateOk list run = true) (on : l.state ≠ .off) : l.kind ≠ .unused := by
  cases state : l.state with
  | off => exact absurd state on
  | scan => exact ((stateOk_scan state).1 ok).1
  | track => exact ((stateOk_track state).1 ok).1
  | carry => exact ((stateOk_carry state).1 ok).1

/-- Only a slot in SCAN reads its candidate list and the run state. -/
theorem stateOk_congr (unscanning : l.state ≠ .scan) (list' : List Nat) (run' : RunState) :
    l.stateOk list' run' = l.stateOk list run := by
  cases state : l.state with
  | scan => exact absurd state unscanning
  | off | track | carry => simp only [stateOk, state]

/-! ## A slot's own rules -/

/-- The candidate list of slot `i`, were this its record and `p` the LIVE profile (R137). -/
def listIn (l : LinkSlot) (p : ProfileSlot) (i : LinkId) : List Nat :=
  match l.kind with
  | .unused => []
  | .shore => p.candidates.get i
  | .sat => [l.satOperator]

theorem listIn_eq {a b : LinkSlot} (kind : a.kind = b.kind) (operator : b.kind = .sat → a.satOperator = b.satOperator)
    (p : ProfileSlot) (i : LinkId) : a.listIn p i = b.listIn p i := by
  unfold listIn
  rw [kind]
  cases held : b.kind with
  | unused | shore => rfl
  | sat => simp only [operator held]

/-- Slot `i` is as its rules say, were this its record: what `LinkInv` says of each slot. -/
structure Ok (l : LinkSlot) (p : ProfileSlot) (i : LinkId) (run : RunState) : Prop where
  settings : l.settingsOk = true
  state : l.stateOk (l.listIn p i) run = true

variable {p : ProfileSlot} {i : LinkId}

namespace Ok

theorem kind (ok : l.Ok p i run) (on : l.state ≠ .off) : l.kind ≠ .unused := kind_of_stateOk ok.state on

/-- A slot that is not in SCAN has no rule that reads the LIVE profile or the run state. -/
theorem elsewhere (ok : l.Ok p i run) (unscanning : l.state ≠ .scan) (p' : ProfileSlot) (run' : RunState) :
    l.Ok p' i run' :=
  ⟨ok.settings, (stateOk_congr unscanning _ _).trans ok.state⟩

theorem demoteCount_le (ok : l.Ok p i run) : l.demoteCount ≤ 15 := by
  simpa using (Bool.and_eq_true_iff.1 ok.settings).2

end Ok

/-! ## Operations on a slot -/

theorem toOff_ok (settings : l.settingsOk = true) : l.toOff.Ok p i run :=
  ⟨settings, (stateOk_off rfl).2 (by simp [toOff])⟩

theorem toTop_dwell_isSome : (l.toTop list run).dwell.isSome = true ↔ list ≠ [] ∧ run = .running := by
  simp [toTop, Option.isSome_ite]

theorem toScan_ok (settings : l.settingsOk = true) (kind : l.kind ≠ .unused) :
    (l.toScan (l.listIn p i) run).Ok p i run :=
  ⟨settings, (stateOk_scan rfl).2 ⟨kind, rfl, rfl, rfl, toTop_dwell_isSome, rfl, rfl, .inl rfl⟩⟩

/-- The settings of CONFIGURE_LINK are held to their ranges, those of one octet by the octet (R133). -/
theorem configured_settingsOk (kind : LinkKind) (operator base threshold count : Nat) {dwell track f1 f2 : Nat}
    (carried : dwell ≤ 255 ∧ track ≤ 255 ∧ f1 ≤ 255 ∧ f2 ≤ 255) :
    (l.configured kind operator dwell track base f1 f2 threshold count).settingsOk = true := by
  dsimp only [settingsOk, configured]
  simp only [Bool.and_eq_true, decide_eq_true_eq]
  omega

namespace Ok

/-- A slot in SCAN taken to the top of its list, whatever profile was LIVE and whatever the run state was before. -/
theorem toTop (ok : l.Ok p i run) (scanning : l.state = .scan) (p' : ProfileSlot) (run' : RunState) :
    (l.toTop (l.listIn p' i) run').Ok p' i run' := by
  obtain ⟨kind, tracked, quality, counter, -, track, carry, -⟩ := (stateOk_scan scanning).1 ok.state
  exact ⟨ok.settings, (stateOk_scan (l := l.toTop _ _) scanning).2
    ⟨kind, tracked, quality, counter, toTop_dwell_isSome, track, carry, .inl rfl⟩⟩

/-- The cursor advances only where a dwell may run (R138, R150). -/
theorem advance (ok : l.Ok p i run) (scanning : l.state = .scan) (dwells : l.listIn p i ≠ [] ∧ run = .running) :
    (l.advance (l.listIn p i)).Ok p i run := by
  obtain ⟨kind, tracked, quality, counter, -, track, carry, -⟩ := (stateOk_scan scanning).1 ok.state
  refine ⟨ok.settings, (stateOk_scan (l := l.advance _) scanning).2
    ⟨kind, tracked, quality, counter, iff_of_true rfl dwells, track, carry, ?_⟩⟩
  change (if _ then _ else _) = 0 ∨ (if _ then _ else _) < (l.listIn p i).length
  split
  · exact .inr (by assumption)
  · exact .inl rfl

/-- A slot that leaves CARRY for TRACK, whatever its demote counter has reached (R144, R146). -/
theorem toTrack {counter : Nat} (ok : l.Ok p i run) (carrying : l.state = .carry) :
    ({ l with demoteCounter := counter }.toTrack).Ok p i run := by
  obtain ⟨kind, tracked, quality, -, dwell, -, -⟩ := (stateOk_carry carrying).1 ok.state
  exact ⟨ok.settings, (stateOk_track rfl).2 ⟨kind, tracked, quality, rfl, dwell, rfl, rfl⟩⟩

/-- A slot whose settings are replaced and whose link state stays: it keeps a kind, and in SCAN its list (R135). -/
theorem configured {kind : LinkKind} {operator dwell track base f1 f2 threshold count : Nat} (ok : l.Ok p i run)
    (carried : dwell ≤ 255 ∧ track ≤ 255 ∧ f1 ≤ 255 ∧ f2 ≤ 255) (kept : l.state ≠ .off → kind ≠ .unused)
    (same : l.state = .scan →
      (l.configured kind operator dwell track base f1 f2 threshold count).listIn p i = l.listIn p i) :
    (l.configured kind operator dwell track base f1 f2 threshold count).Ok p i run := by
  refine ⟨configured_settingsOk kind operator base threshold count carried, ?_⟩
  cases state : l.state with
  | off => exact (stateOk_off (l := l.configured ..) state).2 ((stateOk_off state).1 ok.state)
  | scan =>
    rw [same state]
    obtain ⟨-, rest⟩ := (stateOk_scan state).1 ok.state
    exact (stateOk_scan (l := l.configured ..) state).2 ⟨kept (by simp [state]), rest⟩
  | track =>
    obtain ⟨-, rest⟩ := (stateOk_track state).1 ok.state
    exact (stateOk_track (l := l.configured ..) state).2 ⟨kept (by simp [state]), rest⟩
  | carry =>
    obtain ⟨-, rest⟩ := (stateOk_carry state).1 ok.state
    exact (stateOk_carry (l := l.configured ..) state).2 ⟨kept (by simp [state]), rest⟩

/-- A result for the operator tried takes a slot from SCAN to TRACK (R141). -/
theorem found (ok : l.Ok p i run) (scanning : l.state = .scan) (operator quality micros : Nat) :
    { l with
      state := .track, dwell := none, tracked := some operator, quality := some quality
      trackMonitor := some micros }.Ok p i run := by
  obtain ⟨kind, -, -, counter, -, -, carry, -⟩ := (stateOk_scan scanning).1 ok.state
  exact ⟨ok.settings, (stateOk_track rfl).2 ⟨kind, rfl, rfl, counter, rfl, rfl, carry⟩⟩

/-- The track monitor restarts (R142). -/
theorem confirmed (ok : l.Ok p i run) (tracking : l.state = .track) (quality micros : Nat) :
    { l with trackMonitor := some micros, quality := some quality }.Ok p i run := by
  obtain ⟨kind, tracked, -, counter, dwell, -, carry⟩ := (stateOk_track tracking).1 ok.state
  exact ⟨ok.settings, (stateOk_track (by exact tracking)).2 ⟨kind, tracked, rfl, counter, dwell, rfl, carry⟩⟩

/-- A slot in TRACK keeps its link state at another place of its list (R149). -/
theorem moved (ok : l.Ok p i run) (tracking : l.state = .track) (cursor : Nat) :
    { l with cursor := cursor }.Ok p i run :=
  ⟨ok.settings, (stateOk_track (by exact tracking)).2 ((stateOk_track tracking).1 ok.state)⟩

/-- The carry monitor restarts (R144). -/
theorem strong (ok : l.Ok p i run) (carrying : l.state = .carry) (quality micros : Nat) :
    { l with carryMonitor := some micros, demoteCounter := 0, quality := some quality }.Ok p i run := by
  obtain ⟨kind, tracked, -, -, dwell, track, -⟩ := (stateOk_carry carrying).1 ok.state
  exact ⟨ok.settings, (stateOk_carry (by exact carrying)).2 ⟨kind, tracked, rfl, Nat.zero_le _, dwell, track, rfl⟩⟩

/-- The last quality stays or is replaced in CARRY (R144). -/
theorem heard (ok : l.Ok p i run) (carrying : l.state = .carry) (new : Prop) [Decidable new] (quality : Nat) :
    { l with quality := if new then some quality else l.quality }.Ok p i run := by
  obtain ⟨kind, tracked, before, rest⟩ := (stateOk_carry carrying).1 ok.state
  have held : (if new then some quality else l.quality).isSome = true := by
    split
    · rfl
    · exact before
  exact ⟨ok.settings, (stateOk_carry (by exact carrying)).2 ⟨kind, tracked, held, rest⟩⟩

/-- A weak result below the demote count, which is at most 15 (R144). -/
theorem weakened (ok : l.Ok p i run) (carrying : l.state = .carry) (below : l.demoteCounter + 1 < l.demoteCount) :
    { l with demoteCounter := l.demoteCounter + 1 }.Ok p i run := by
  obtain ⟨kind, tracked, quality, -, rest⟩ := (stateOk_carry carrying).1 ok.state
  have bounded := ok.demoteCount_le
  exact ⟨ok.settings, (stateOk_carry (by exact carrying)).2
    ⟨kind, tracked, quality, show l.demoteCounter + 1 ≤ 14 by omega, rest⟩⟩

/-- A slot in TRACK enters CARRY (R147). -/
theorem opened (ok : l.Ok p i run) (tracking : l.state = .track) (micros : Nat) :
    { l with state := .carry, trackMonitor := none, carryMonitor := some micros, demoteCounter := 0 }.Ok p i run := by
  obtain ⟨kind, tracked, quality, -, dwell, -, -⟩ := (stateOk_track tracking).1 ok.state
  exact ⟨ok.settings, (stateOk_carry rfl).2 ⟨kind, tracked, quality, Nat.zero_le _, dwell, rfl, rfl⟩⟩

/-- Time that passes stops no timer and starts none. -/
theorem elapse (ok : l.Ok p i run) (micros : Nat) : (l.elapse micros).Ok p i run := by
  have timers : (l.elapse micros).stateOk (l.listIn p i) run = l.stateOk (l.listIn p i) run := by
    cases state : l.state <;> simp [stateOk, LinkSlot.elapse, Machine.elapse, state]
  exact ⟨ok.settings, timers.trans ok.state⟩

end Ok

end LinkSlot

end Sys2Proof.Machine
end

section
/-! SUPPORT. The link slots as their rules say (`LinkInv`), slot by slot: through the operations of the Link Supervisor,
a new LIVE profile, START and the passing of time. -/

namespace Sys2Proof.Machine

/-! ## One slot among four -/

theorem Four.set_set {α : Type} (f : Four α) (i : Fin 4) (x y : α) : (f.set i x).set i y = f.set i y := by
  refine Four.ext_get fun j => ?_
  simp only [Four.get_set]
  split <;> rfl

namespace State

theorem link_setLink (s : State) (i j : LinkId) (l : LinkSlot) :
    (s.setLink i l).link j = if j = i then l else s.link j := Four.get_set _ _ _ _

@[simp] theorem link_setLink_self (s : State) (i : LinkId) (l : LinkSlot) : (s.setLink i l).link i = l :=
  Four.get_set_self _ _ _

theorem link_setLink_other {i j : LinkId} (other : j ≠ i) (s : State) (l : LinkSlot) :
    (s.setLink i l).link j = s.link j := (s.link_setLink i j l).trans (if_neg other)

@[simp] theorem setLink_live (s : State) (i : LinkId) (l : LinkSlot) : (s.setLink i l).live = s.live := rfl

/-- Of two records given to one slot the second stands. -/
theorem setLink_setLink (s : State) (i : LinkId) (a b : LinkSlot) : (s.setLink i a).setLink i b = s.setLink i b := by
  simp only [State.setLink, Four.set_set]

theorem candidates_eq (s : State) (i : LinkId) : s.candidates i = (s.link i).listIn s.live i := rfl

/-- An operation on one slot after the other, which gives a slot whose record meets `before` a record that meets
`after`, the LIVE profile and the run state standing. -/
theorem foldl_link {f : State → LinkId → State} {before after : LinkId → LinkSlot → Prop} {p : ProfileSlot}
    {run : RunState}
    (turned : ∀ t i, t.live = p → t.runState = run → before i (t.link i) →
      ∃ l, (f t i).linkage = (t.setLink i l).linkage ∧ after i l)
    {slots : List LinkId} (once : slots.Nodup) {s : State} (live : s.live = p) (running : s.runState = run)
    (all : ∀ i, before i (s.link i)) :
    (slots.foldl f s).live = p ∧ (slots.foldl f s).runState = run
      ∧ ∀ i, (i ∈ slots → after i ((slots.foldl f s).link i)) ∧ (i ∉ slots → before i ((slots.foldl f s).link i)) := by
  induction slots using List.reverseRecOn with
  | nil => exact ⟨live, running, fun i => ⟨by simp, fun _ => all i⟩⟩
  | append_singleton slots a ih =>
    obtain ⟨once, -, apart⟩ := List.nodup_append.1 once
    obtain ⟨live, running, slot⟩ := ih once
    have absent : a ∉ slots := fun member => apart a member a (List.mem_singleton_self a) rfl
    obtain ⟨l, same, turns⟩ := turned _ a live running ((slot a).2 absent)
    obtain ⟨link', live', running'⟩ := of_linkage same
    rw [List.foldl_append, List.foldl_cons, List.foldl_nil, link']
    refine ⟨live'.trans live, running'.trans running, fun i => ?_⟩
    by_cases here : i = a
    · subst here
      rw [link_setLink_self]
      exact ⟨fun _ => turns, by simp⟩
    · rw [link_setLink_other here]
      simpa [here] using slot i

end State

theorem mem_slotIds (i : LinkId) : i ∈ slotIds := by
  fin_cases i <;> decide

theorem nodup_slotIds : slotIds.Nodup := by decide

/-- What a CONFIGURE_LINK takes to the top of its list from SCAN or TRACK (R135). -/
theorem LinkSlot.rescans_iff (old new : LinkSlot) : old.rescans new = true ↔ new.kind ≠ old.kind
    ∨ (new.kind = .sat ∧ new.satOperator ≠ old.satOperator
      ∧ (old.state = .scan ∨ old.tracked ≠ some new.satOperator)) := by
  simp [LinkSlot.rescans, and_assoc]

/-! ## CONFIGURE_LINK and PROBE_RESULT by the link state held (R135, R140 to R144) -/

section ConfigureSlot

variable {s : State} {i : LinkId} {new : LinkSlot}

theorem State.configureSlot_off (off : (s.link i).state = .off) : s.configureSlot i new =
    if new.kind = .unused ∨ new.kind = (s.link i).kind then s.setLink i new
    else s.setLink i (new.toScan (new.listIn s.live i) s.runState) := by
  simp only [State.configureSlot, off, State.setLink_setLink, State.candidates_eq, State.link_setLink_self,
    State.setLink_live]

theorem State.configureSlot_seeking (seeking : (s.link i).state = .scan ∨ (s.link i).state = .track) :
    s.configureSlot i new = if new.kind = .unused then s.setLink i new.toOff
      else if (s.link i).rescans new then s.setLink i (new.toScan (new.listIn s.live i) s.runState)
      else s.setLink i new := by
  obtain state | state := seeking <;>
    simp only [State.configureSlot, state, State.setLink_setLink, State.candidates_eq, State.link_setLink_self,
      State.setLink_live]

theorem State.configureSlot_carry (carrying : (s.link i).state = .carry) : s.configureSlot i new =
    if new.kind = .unused then (s.setLink i new.toOff).joinLost i
    else if new.kind ≠ (s.link i).kind then
      (s.setLink i (new.toScan (new.listIn s.live i) s.runState)).joinLost i
    else s.setLink i new := by
  simp only [State.configureSlot, carrying, State.setLink_setLink, State.candidates_eq, State.link_setLink_self,
    State.setLink_live]

end ConfigureSlot

section Probe

variable {s : State} {i : LinkId} {success : Bool} {quality operator : Nat}

theorem State.probe_off (off : (s.link i).state = .off) : s.probe i success quality operator = s := by
  simp only [State.probe, off]

/-- An OK result in SCAN for the operator tried; the list then holds it (R141). -/
theorem State.probe_found (scanning : (s.link i).state = .scan)
    (tried : (s.candidates i)[(s.link i).cursor]? = some operator) :
    s.probe i true quality operator = (s.setLink i { s.link i with
      state := .track, dwell := none, tracked := some operator, quality := some quality
      trackMonitor := some (s.link i).trackMicros }).raiseFound i := by
  have listed : s.candidates i ≠ [] := fun empty => by simp [empty] at tried
  simp only [State.probe, State.probeScan, State.tryOperator, scanning, listed, tried, if_true, if_false]

theorem State.probe_other (scanning : (s.link i).state = .scan)
    (untried : (s.candidates i)[(s.link i).cursor]? ≠ some operator) : s.probe i true quality operator = s := by
  simp only [State.probe, State.probeScan, State.tryOperator, scanning, untried, if_true, if_false, ite_self]

theorem State.probe_fail (scanning : (s.link i).state = .scan) : s.probe i false quality operator =
    if s.candidates i = [] then s else s.setLink i ((s.link i).advance (s.candidates i)) := by
  simp only [State.probe, State.probeScan, scanning, Bool.false_eq_true, if_false]

theorem State.probe_track (tracking : (s.link i).state = .track) : s.probe i success quality operator =
    if success ∧ (s.link i).tracked = some operator then s.setLink i { s.link i with
      trackMonitor := some (s.link i).trackMicros, quality := some quality }
    else s := by
  simp only [State.probe, State.probeTrack, tracking]

theorem State.probe_strong (carrying : (s.link i).state = .carry)
    (heard : success = true ∧ (s.link i).tracked = some operator)
    (strong : (s.link i).demoteThreshold ≤ quality) : s.probe i success quality operator =
    s.setLink i { s.link i with
      carryMonitor := some (s.link i).carryMicros, demoteCounter := 0, quality := some quality } := by
  simp only [State.probe, State.probeCarry, carrying, heard, strong, and_self, if_true]

/-- Any other result in CARRY is weak; its quality is kept where the tracked operator gave it (R144). -/
theorem State.probe_weak (carrying : (s.link i).state = .carry)
    (weak : ¬((success = true ∧ (s.link i).tracked = some operator) ∧ (s.link i).demoteThreshold ≤ quality)) :
    s.probe i success quality operator = s.probeWeak i { s.link i with
      quality := if success = true ∧ (s.link i).tracked = some operator then some quality
        else (s.link i).quality } := by
  have carried : s.probe i success quality operator = s.probeCarry i success quality operator := by
    simp only [State.probe, carrying]
  rw [carried]
  unfold State.probeCarry
  dsimp only
  by_cases heard : success = true ∧ (s.link i).tracked = some operator
  · rw [if_pos heard, if_pos heard, if_neg fun strong => weak ⟨heard, strong⟩]
  · rw [if_neg heard, if_neg heard]

theorem State.probeWeak_counts {l : LinkSlot} (below : l.demoteCounter + 1 < l.demoteCount) :
    s.probeWeak i l = s.setLink i { l with demoteCounter := l.demoteCounter + 1 } := if_neg (not_le.2 below)

theorem State.probeWeak_demotes {l : LinkSlot} (reached : l.demoteCount ≤ l.demoteCounter + 1) :
    s.probeWeak i l =
      ((s.setLink i { l with demoteCounter := l.demoteCounter + 1 }.toTrack).joinLost i).raiseWeak i := by
  refine (if_pos reached).trans ?_
  rw [State.demote, State.setLink_setLink, State.link_setLink_self]

end Probe

/-! ## The invariant, slot by slot -/

theorem linkInv_iff (s : State) : LinkInv s ↔ ∀ i, (s.link i).Ok s.live i s.runState :=
  ⟨fun inv i => ⟨(inv i).1, (inv i).2⟩, fun ok i => ⟨(ok i).settings, (ok i).state⟩⟩

namespace LinkInv

variable {s t : State}

theorem ok (inv : LinkInv s) (i : LinkId) : (s.link i).Ok s.live i s.runState := (linkInv_iff s).1 inv i

theorem of_same (inv : LinkInv s) (link : t.link = s.link) (live : t.live = s.live) (run : t.runState = s.runState) :
    LinkInv t :=
  (linkInv_iff t).2 fun i => by
    rw [link, live, run]
    exact inv.ok i

theorem of_linkage (inv : LinkInv s) (same : t.linkage = s.linkage) : LinkInv t := by
  obtain ⟨link, live, run⟩ := State.of_linkage same
  exact inv.of_same link live run

theorem setLink (inv : LinkInv s) {i : LinkId} {l : LinkSlot} (ok : l.Ok s.live i s.runState) :
    LinkInv (s.setLink i l) :=
  (linkInv_iff _).2 fun j => by
    by_cases here : j = i
    · rw [here, State.link_setLink_self]
      exact ok
    · rw [State.link_setLink_other here]
      exact inv.ok j

theorem raise (inv : LinkInv s) (e : Event) (d : Details) : LinkInv (s.raise e d) := inv.of_linkage rfl

theorem joinLost (inv : LinkInv s) (i : LinkId) : LinkInv (s.joinLost i) := inv.of_linkage (s.joinLost_linkage i)

/-! ## Link slots (R135, R139 to R148) -/

theorem demote (inv : LinkInv s) {i : LinkId} (carrying : (s.link i).state = .carry) : LinkInv (s.demote i) :=
  (inv.setLink ((inv.ok i).toTrack (counter := (s.link i).demoteCounter) carrying)).joinLost i

/-- A slot in SCAN whose dwell may run advances (R138). -/
theorem advance (inv : LinkInv s) {i : LinkId} (scanning : (s.link i).state = .scan)
    (dwells : s.candidates i ≠ [] ∧ s.runState = .running) :
    LinkInv (s.setLink i ((s.link i).advance (s.candidates i))) :=
  inv.setLink ((inv.ok i).advance scanning dwells)

/-- A slot taken back to SCAN from the top of its list (R143). -/
theorem rescan (inv : LinkInv s) {i : LinkId} (on : (s.link i).state ≠ .off) :
    LinkInv (s.setLink i ((s.link i).toScan (s.candidates i) s.runState)) :=
  inv.setLink (LinkSlot.toScan_ok (inv.ok i).settings ((inv.ok i).kind on))

/-- A CONFIGURE_LINK with settings that one octet carries (R133, R135). -/
theorem configureSlot (inv : LinkInv s) (i : LinkId) (kind : LinkKind) (operator base threshold count : Nat)
    {dwell track f1 f2 : Nat} (carried : dwell ≤ 255 ∧ track ≤ 255 ∧ f1 ≤ 255 ∧ f2 ≤ 255) :
    LinkInv (s.configureSlot i ((s.link i).configured kind operator dwell track base f1 f2 threshold count)) := by
  have settings := LinkSlot.configured_settingsOk (l := s.link i) kind operator base threshold count carried
  have configured := (inv.ok i).configured (kind := kind) (operator := operator) (base := base)
    (threshold := threshold) (count := count) carried
  have left := inv.setLink (LinkSlot.toOff_ok (p := s.live) (i := i) (run := s.runState) settings)
  have scans (named : kind ≠ .unused) :=
    inv.setLink (LinkSlot.toScan_ok (p := s.live) (i := i) (run := s.runState) settings named)
  have kept (named : (s.link i).state ≠ .off → kind ≠ .unused) (same) := inv.setLink (configured named same)
  cases state : (s.link i).state with
  | off =>
    rw [State.configureSlot_off state]
    split
    · exact kept (by simp [state]) (by simp [state])
    · rename_i named
      exact scans (not_or.1 named).1
  | scan =>
    rw [State.configureSlot_seeking (.inl state)]
    split
    · exact left
    · rename_i named
      split
      · exact scans named
      · rename_i stays
        rw [LinkSlot.rescans_iff, not_or, not_not] at stays
        obtain ⟨sameKind, sameOperator⟩ := stays
        exact kept (fun _ => named) fun _ => LinkSlot.listIn_eq sameKind
          (fun sat => by_contra fun differs => sameOperator ⟨sameKind.trans sat, differs, .inl state⟩) _ _
  | track =>
    rw [State.configureSlot_seeking (.inr state)]
    split
    · exact left
    · rename_i named
      split
      · exact scans named
      · exact kept (fun _ => named) (by simp [state])
  | carry =>
    rw [State.configureSlot_carry state]
    split
    · exact left.joinLost i
    · rename_i named
      split
      · exact (scans named).joinLost i
      · exact kept (fun _ => named) (by simp [state])

/-- A weak result in CARRY (R144). -/
theorem probeWeak (inv : LinkInv s) {i : LinkId} {l : LinkSlot} (ok : l.Ok s.live i s.runState)
    (carrying : l.state = .carry) : LinkInv (s.probeWeak i l) := by
  by_cases below : l.demoteCounter + 1 < l.demoteCount
  · rw [State.probeWeak_counts below]
    exact inv.setLink (ok.weakened carrying below)
  · rw [State.probeWeak_demotes (not_lt.1 below)]
    exact ((inv.setLink (ok.toTrack carrying)).joinLost i).raise _ _

/-- A probe result while the part is RUNNING (R140 to R144). -/
theorem probe (inv : LinkInv s) (i : LinkId) (running : s.runState = .running) (success : Bool)
    (quality operator : Nat) : LinkInv (s.probe i success quality operator) := by
  have ok := inv.ok i
  cases state : (s.link i).state with
  | off => rwa [State.probe_off state]
  | scan =>
    cases success with
    | false =>
      rw [State.probe_fail state]
      split
      · exact inv
      · rename_i listed
        exact inv.advance state ⟨listed, running⟩
    | true =>
      by_cases tried : (s.candidates i)[(s.link i).cursor]? = some operator
      · rw [State.probe_found state tried]
        exact (inv.setLink (ok.found state operator quality _)).raise _ _
      · rwa [State.probe_other state tried]
  | track =>
    rw [State.probe_track state]
    split
    · exact inv.setLink (ok.confirmed state quality _)
    · exact inv
  | carry =>
    by_cases strong : (success = true ∧ (s.link i).tracked = some operator) ∧ (s.link i).demoteThreshold ≤ quality
    · rw [State.probe_strong state strong.1 strong.2]
      exact inv.setLink (ok.strong state quality _)
    · rw [State.probe_weak state strong]
      exact inv.probeWeak (ok.heard state _ quality) state

end LinkInv

/-! ## A new LIVE profile and START, slot by slot (R149, R150) -/

namespace State

theorem linkage_setLink_link (s : State) (i : LinkId) : s.linkage = (s.setLink i (s.link i)).linkage := by
  have same : s.links.set i (s.links.get i) = s.links := by
    refine Four.ext_get fun j => ?_
    rw [Four.get_set]
    split
    · rename_i here
      rw [here]
    · rfl
  simp only [linkage, State.setLink, State.link, same]

/-- A slot that is not SHORE has the same candidate list under every LIVE profile (R137). -/
theorem ok_of_unshore {s : State} {i : LinkId} {p : ProfileSlot} (ok : (s.link i).Ok p i s.runState)
    (named : (s.link i).kind ≠ .shore) : (s.link i).Ok s.live i s.runState := by
  have same : (s.link i).listIn s.live i = (s.link i).listIn p i := by
    unfold LinkSlot.listIn
    split
    · rfl
    · rename_i shore
      exact absurd shore named
    · rfl
  exact ⟨ok.settings, same ▸ ok.state⟩

/-- The new LIVE profile's action gives a slot that was as its rules say under another profile a record that is so
again (R149). -/
theorem zoneChange_slot {s : State} {i : LinkId} {p : ProfileSlot} (ok : (s.link i).Ok p i s.runState) :
    ∃ l, (s.zoneChange i).linkage = (s.setLink i l).linkage ∧ l.Ok s.live i s.runState := by
  have stays (named : (s.link i).kind ≠ .shore) (uncarried : (s.link i).state ≠ .carry) :
      ∃ l, (s.zoneChange i).linkage = (s.setLink i l).linkage ∧ l.Ok s.live i s.runState := by
    rw [zoneChange_sat named uncarried]
    exact ⟨_, s.linkage_setLink_link i, ok_of_unshore ok named⟩
  cases state : (s.link i).state with
  | off =>
    rw [zoneChange_off state]
    exact ⟨_, s.linkage_setLink_link i, ok.elsewhere (by simp [state]) _ _⟩
  | scan =>
    by_cases shore : (s.link i).kind = .shore
    · rw [zoneChange_scan state shore]
      exact ⟨_, rfl, ok.toTop state _ _⟩
    · exact stays shore (by simp [state])
  | track =>
    by_cases shore : (s.link i).kind = .shore
    · obtain ⟨-, held, -⟩ := (LinkSlot.stateOk_track state).1 ok.state
      obtain ⟨operator, tracked⟩ := Option.isSome_iff_exists.1 held
      rw [zoneChange_track state shore tracked]
      split
      · exact ⟨_, rfl, (ok.moved state _).elsewhere (by simp [state]) _ _⟩
      · exact ⟨_, rfl, LinkSlot.toScan_ok ok.settings (by simp [shore])⟩
    · exact stays shore (by simp [state])
  | carry =>
    rw [zoneChange_carry state]
    split
    · exact ⟨_, s.linkage_setLink_link i, ok.elsewhere (by simp [state]) _ _⟩
    · exact ⟨_, joinLost_linkage _ i, (ok.toTrack (counter := (s.link i).demoteCounter) state).elsewhere
        (by simp [LinkSlot.toTrack]) _ _⟩

/-- START gives a slot that was as its rules say in CONFIGURING a record that is so in RUNNING (R150). -/
theorem startDwell_slot {s : State} {i : LinkId} (ok : (s.link i).Ok s.live i .configuring) :
    ∃ l, (s.startDwell i).linkage = (s.setLink i l).linkage ∧ l.Ok s.live i .running := by
  by_cases scanning : (s.link i).state = .scan
  · have before := (LinkSlot.stateOk_scan scanning).1 ok.state
    by_cases empty : s.candidates i = []
    · have still : s.startDwell i = s := if_neg fun dwells => dwells.2 empty
      rw [still]
      rw [candidates_eq] at empty
      refine ⟨_, s.linkage_setLink_link i, ok.settings, (LinkSlot.stateOk_scan scanning).2 ?_⟩
      simpa [empty] using before
    · have starts : s.startDwell i = s.setLink i { s.link i with dwell := some (s.link i).dwellMicros } :=
        if_pos ⟨scanning, empty⟩
      obtain ⟨kind, tracked, quality, counter, -, rest⟩ := before
      rw [starts]
      exact ⟨_, rfl, ok.settings, (LinkSlot.stateOk_scan (by exact scanning)).2
        ⟨kind, tracked, quality, counter, iff_of_true rfl ⟨empty, rfl⟩, rest⟩⟩
  · have still : s.startDwell i = s := if_neg fun dwells => scanning dwells.1
    rw [still]
    exact ⟨_, s.linkage_setLink_link i, ok.elsewhere scanning _ _⟩

end State

namespace LinkInv

variable {s t : State}

/-- A new LIVE profile is handed over: whatever the bank has become, the slots follow it (R149). -/
theorem handOver (inv : LinkInv s) (links : t.links = s.links) (run : t.runState = s.runState) :
    LinkInv t.handOver := by
  obtain ⟨recomputed, live, running⟩ := State.of_linkage t.recompute_linkage
  have link : t.link = s.link := by
    funext i
    simp only [State.link, links]
  obtain ⟨live', running', slots⟩ := State.foldl_link (f := State.zoneChange)
    (before := fun i l => l.Ok s.live i t.runState) (after := fun i l => l.Ok t.live i t.runState)
    (p := t.live) (run := t.runState)
    (fun u i live running ok => live ▸ running ▸ State.zoneChange_slot (running.symm ▸ ok))
    nodup_slotIds live running
    (fun i => by
      rw [recomputed, link, run]
      exact inv.ok i)
  refine (linkInv_iff _).2 fun i => ?_
  have done := (slots i).1 (mem_slotIds i)
  rw [← live', ← running'] at done
  exact done

theorem promote (inv : LinkInv s) (i : ProfileId) : LinkInv (s.promote i) :=
  inv.handOver (by rw [s.exchangeRoles_frame]) (by rw [s.exchangeRoles_frame])

/-- START (R150). -/
theorem start (inv : LinkInv s) (stopped : s.runState = .configuring) :
    LinkInv (slotIds.foldl State.startDwell { s with runState := .running }) := by
  obtain ⟨live', running', slots⟩ := State.foldl_link (f := State.startDwell)
    (before := fun i l => l.Ok s.live i .configuring) (after := fun i l => l.Ok s.live i .running)
    (p := s.live) (run := .running) (s := { s with runState := .running })
    (fun t i live _ ok => live ▸ State.startDwell_slot (live.symm ▸ ok))
    nodup_slotIds rfl rfl (fun i => stopped ▸ inv.ok i)
  refine (linkInv_iff _).2 fun i => ?_
  rw [live', running']
  exact (slots i).1 (mem_slotIds i)

/-- Time that passes. -/
theorem tick (inv : LinkInv s) : LinkInv s.tick :=
  (linkInv_iff _).2 fun i => by
    have link : s.tick.link i = (s.link i).elapse Config.tickMicros := Four.get_map _ _ _
    rw [link]
    exact (inv.ok i).elapse _

end LinkInv

end Sys2Proof.Machine
end

section
/-! The link slots under every rule of a request kind, every command and every step (O56). -/

namespace Sys2Proof.Machine

/-! ## Profile slots beside the LIVE one -/

/-- The LIVE profile stays where no slot but the LIVE one is LIVE and that one is left. -/
theorem State.live_eq_of_bank {s t : State} (inv : BankInv s.bank)
    (kept : ∀ j, (s.bank.slots.get j).role = .live → t.bank.slots.get j = s.bank.slots.get j)
    (others : ∀ j, (s.bank.slots.get j).role ≠ .live → (t.bank.slots.get j).role ≠ .live) : t.live = s.live := by
  obtain ⟨i, live, -, before⟩ := State.live_eq inv
  have found : t.slotIn .live = some i := by
    refine (t.slotIn_some .live i).2 ⟨by rw [kept i live, live], fun j first => others j fun held => ?_⟩
    exact absurd first (by rw [inv.holder (by decide) held live]; exact lt_irrefl i)
  rw [before, ← kept i live, State.live, State.liveSlot, found]
  rfl

namespace LinkInv

variable {s t : State}

theorem of_bank (inv : LinkInv s) (bank : BankInv s.bank) (links : t.links = s.links) (run : t.runState = s.runState)
    (kept : ∀ j, (s.bank.slots.get j).role = .live → t.bank.slots.get j = s.bank.slots.get j)
    (others : ∀ j, (s.bank.slots.get j).role ≠ .live → (t.bank.slots.get j).role ≠ .live) : LinkInv t :=
  inv.of_same (by funext i; simp only [State.link, links]) (State.live_eq_of_bank bank kept others) run

/-- A profile slot that is not LIVE replaced by one that is not. -/
theorem setSlot (inv : LinkInv s) (bank : BankInv s.bank) {i : ProfileId} {p : ProfileSlot}
    (unlive : (s.bank.slots.get i).role ≠ .live) (role : p.role ≠ .live) : LinkInv (s.setSlot i p) := by
  refine inv.of_bank bank rfl rfl (fun j live => ?_) fun j held => ?_ <;> rw [State.setSlot_bank, Four.get_set]
  · exact if_neg fun here : j = i => unlive (here ▸ live)
  · split
    · exact role
    · exact held

/-- The OPEN slot written, its role kept. -/
theorem write (inv : LinkInv s) (bank : BankInv s.bank) {i : ProfileId} (found : s.slotIn .opened = some i)
    {p : ProfileSlot} (role : p.role = (s.bank.slots.get i).role) : LinkInv (s.setSlot i p) := by
  obtain ⟨opened, -⟩ := (s.slotIn_some .opened i).1 found
  exact inv.setSlot bank (by simp [opened]) (by simp [role, opened])

theorem expireGrace (inv : LinkInv s) (bank : BankInv s.bank) : LinkInv s.expireGrace := by
  unfold State.expireGrace
  split
  · rename_i i found
    obtain ⟨grace, -⟩ := (s.slotIn_some .grace i).1 found
    exact (inv.setSlot bank (i := i) (p := .cleared .free) (by simp [grace]) (by decide)).of_same rfl rfl rfl
  · exact inv

theorem stage (inv : LinkInv s) (bank : BankInv s.bank) {i : ProfileId}
    (opened : (s.bank.slots.get i).role = .opened) : LinkInv (s.stage i) := by
  rw [State.stage_eq bank opened]
  have free : (ProfileSlot.cleared .free).role = .free := rfl
  refine inv.of_bank bank rfl rfl (fun j live => ?_) fun j held => ?_ <;>
    simp only [Bank.stage_get, Bank.stagedSlot]
  · have distinct : j ≠ i := fun same => by simp [same, opened] at live
    simp [distinct, live]
  · grind

theorem enterZone (inv : LinkInv s) (zone : Nat) : LinkInv (s.enterZone zone) := by
  have entered : LinkInv { s with bank := { s.bank with presentZone := zone } } := inv.of_same rfl rfl rfl
  unfold State.enterZone
  dsimp only
  split
  · exact entered
  · exact entered.raise _ _
  · exact entered.promote _
  · exact entered.promote _
  · exact entered
  · exact entered

end LinkInv

/-! ## The rules -/

/-- A CONFIGURE_LINK carries five of its settings in one octet each (R186). -/
theorem read_configureLink {body : List Byte} {i : LinkId} {kind : LinkKind}
    {operator dwell track base f1 f2 threshold count : Nat} (read : Kind.configureLink.read body
      = some (.configureLink i kind operator dwell track base f1 f2 threshold count)) :
    dwell ≤ 255 ∧ track ≤ 255 ∧ f1 ≤ 255 ∧ f2 ≤ 255 := by
  obtain ⟨fields, widths, read⟩ := readFixed_of_read read rfl
  simp only [Kind.widths, List.forall₂_cons_left_iff, List.forall₂_nil_left_iff] at widths
  obtain ⟨_, _, -, ⟨_, _, -, ⟨_, _, -, ⟨a, _, ha, ⟨b, _, hb, ⟨_, _, -, ⟨c, _, hc, ⟨d, _, hd, ⟨_, _, -, ⟨_, _, -, rfl,
    rfl⟩, rfl⟩, rfl⟩, rfl⟩, rfl⟩, rfl⟩, rfl⟩, rfl⟩, rfl⟩, rfl⟩ := widths
  simp only [Kind.readFixed, Option.bind_eq_bind, Option.bind_eq_some_iff, Option.pure_def, Option.some.injEq,
    Request.configureLink.injEq] at read
  obtain ⟨_, -, _, -, -, -, -, rfl, rfl, -, rfl, rfl, -⟩ := read
  omega

/-- A request of a kind that CONFIGURING does not serve passes its checks in RUNNING alone (R182). -/
theorem State.running_of_passes {s : State} {k : Kind} {r : RequesterId} {m : Message}
    (kind : Kind.ofCode m.kind.toNat = some k) (passes : s.portRefusal r m = none) (later : k.inConfiguring = false) :
    s.runState = .running := by
  cases run : s.runState with
  | running => rfl
  | configuring =>
    simp only [State.portRefusal, kind, run, later, and_self, if_true] at passes
    split at passes <;> cases passes

section Rules

variable {s : State} (q : Option Request) (b : List Byte)

theorem openProfileRule_linkInv (inv : LinkInv s) (bank : BankInv s.bank) : LinkInv (openProfileRule q b s).1 := by
  unfold openProfileRule
  split
  · split
    · exact inv
    · split
      · rename_i i found
        obtain ⟨free, -⟩ := (s.slotIn_some .free i).1 found
        exact inv.setSlot bank (by simp [free]) (by decide)
      · exact inv
  · exact inv

theorem writeProfileHeaderRule_linkInv (inv : LinkInv s) (bank : BankInv s.bank) :
    LinkInv (writeProfileHeaderRule q b s).1 := by
  unfold writeProfileHeaderRule
  split
  · split
    · exact inv
    · rename_i found
      exact inv.write bank found rfl
  · exact inv

theorem writeTariffRowRule_linkInv (inv : LinkInv s) (bank : BankInv s.bank) :
    LinkInv (writeTariffRowRule q b s).1 := by
  unfold writeTariffRowRule
  split
  · split
    · exact inv
    · rename_i found
      split
      · exact inv
      · exact inv.write bank found rfl
  · exact inv

theorem writeCandidatesRule_linkInv (inv : LinkInv s) (bank : BankInv s.bank) :
    LinkInv (writeCandidatesRule q b s).1 := by
  unfold writeCandidatesRule
  split
  · split
    · exact inv
    · rename_i found
      exact inv.write bank found rfl
  · exact inv

theorem discardProfileRule_linkInv (inv : LinkInv s) (bank : BankInv s.bank) :
    LinkInv (discardProfileRule q b s).1 := by
  unfold discardProfileRule
  split
  · split
    · rename_i opened
      exact inv.setSlot bank (by simp [opened]) (by decide)
    · rename_i staged
      exact inv.setSlot bank (by simp [staged]) (by decide)
    all_goals exact inv
  · exact inv

theorem stageProfileRule_linkInv (inv : LinkInv s) (bank : BankInv s.bank) : LinkInv (stageProfileRule q b s).1 := by
  unfold stageProfileRule
  split
  · split
    · exact inv
    · rename_i i found
      have staged := inv.stage bank ((s.slotIn_some .opened i).1 found).1
      dsimp only
      split
      · exact inv
      · split
        · exact staged.promote i
        · exact staged
  · exact inv

theorem enterZoneRule_linkInv (inv : LinkInv s) : LinkInv (enterZoneRule q b s).1 := by
  unfold enterZoneRule
  split
  · exact inv.enterZone _
  · exact inv

theorem configureLinkRule_linkInv (inv : LinkInv s) (m : Message) :
    LinkInv (configureLinkRule (Kind.configureLink.read m.body) b s).1 := by
  unfold configureLinkRule
  split
  · rename_i read
    exact inv.configureSlot _ _ _ _ _ _ (read_configureLink read)
  · exact inv

theorem probeResultRule_linkInv (inv : LinkInv s) (running : s.runState = .running) :
    LinkInv (probeResultRule q b s).1 := by
  unfold probeResultRule
  split
  · split
    · exact inv
    · exact inv.probe _ running _ _ _
  · split <;> exact inv

theorem openLinkRule_linkInv (inv : LinkInv s) : LinkInv (openLinkRule q b s).1 := by
  unfold openLinkRule
  dsimp only
  split
  · rename_i i
    split
    · exact inv
    · rename_i tracking
      have opened := inv.setLink ((inv.ok i).opened (not_not.1 tracking) (s.link i).carryMicros)
      repeat' split
      · exact inv
      · exact inv
      · exact opened.of_linkage (State.order_linkage _ _)
      · exact opened
  · exact inv

theorem closeLinkRule_linkInv (inv : LinkInv s) : LinkInv (closeLinkRule q b s).1 := by
  unfold closeLinkRule
  split
  · split
    · exact inv
    · rename_i carrying
      exact inv.demote (not_not.1 carrying)
  · exact inv

theorem startRule_linkInv (inv : LinkInv s) : LinkInv (startRule q b s).1 := by
  unfold startRule
  split
  · split
    · exact inv
    · rename_i stopped
      refine inv.start ?_
      cases run : s.runState with
      | configuring => rfl
      | running => exact absurd run stopped
  · exact inv

/-- Every rule keeps the link slots as their rules say, once the request's checks have passed. -/
theorem rule_linkInv {k : Kind} {rule : Option Request → List Byte → State → State × Reply} {r : RequesterId}
    {m : Message} (ruled : k.rule = some rule) (kind : Kind.ofCode m.kind.toNat = some k)
    (passes : s.portRefusal r m = none) (inv : LinkInv s) (bank : BankInv s.bank) :
    LinkInv (rule (k.read m.body) m.body s).1 := by
  cases writes : k.writesLinkage with
  | false => exact inv.of_linkage (rule_linkage ruled writes _ _ s)
  | true =>
    cases k
    case openProfile => exact Option.some.inj ruled ▸ openProfileRule_linkInv _ _ inv bank
    case writeProfileHeader => exact Option.some.inj ruled ▸ writeProfileHeaderRule_linkInv _ _ inv bank
    case writeTariffRow => exact Option.some.inj ruled ▸ writeTariffRowRule_linkInv _ _ inv bank
    case writeCandidates => exact Option.some.inj ruled ▸ writeCandidatesRule_linkInv _ _ inv bank
    case discardProfile => exact Option.some.inj ruled ▸ discardProfileRule_linkInv _ _ inv bank
    case stageProfile => exact Option.some.inj ruled ▸ stageProfileRule_linkInv _ _ inv bank
    case enterZone => exact Option.some.inj ruled ▸ enterZoneRule_linkInv _ _ inv
    case configureLink => exact Option.some.inj ruled ▸ configureLinkRule_linkInv _ inv m
    case probeResult =>
      exact Option.some.inj ruled ▸ probeResultRule_linkInv _ _ inv (State.running_of_passes kind passes rfl)
    case openLink => exact Option.some.inj ruled ▸ openLinkRule_linkInv _ _ inv
    case closeLink => exact Option.some.inj ruled ▸ closeLinkRule_linkInv _ _ inv
    case start => exact Option.some.inj ruled ▸ startRule_linkInv _ _ inv
    all_goals exact absurd writes (by decide)

end Rules

/-! ## Commands -/

namespace LinkInv

variable {s t : State}

theorem reset : LinkInv State.reset := by
  unfold LinkInv
  decide

/-- Every command keeps the link slots as their rules say. -/
theorem taken {c : Instr} (inv : LinkInv s) (bank : BankInv s.bank) (taken : s.Taken c t) : LinkInv t := by
  have concluded {u : State} (kept : LinkInv u) : LinkInv u.conclude := kept.of_linkage u.conclude_linkage
  induction taken with
  | reset => exact reset.of_same rfl rfl rfl
  | skipped => exact inv
  | answered reply => exact inv.of_linkage (s.finish_linkage _ _ _)
  | ruled ruled _ kind passes =>
    exact (rule_linkInv ruled kind passes inv bank).of_linkage (State.finish_linkage _ _ _ _)
  | lineInactive _ ih => exact ih.of_linkage rfl
  | holdRequested => exact concluded (inv.of_linkage rfl)
  | holdGranted => exact inv.of_linkage (State.answerHold_linkage _)
  | holdExpiring => exact inv.of_linkage rfl
  | holdExpired => exact concluded (inv.of_linkage s.revokeHold_linkage)
  | clocked => exact concluded (inv.of_linkage rfl)
  | visited => exact concluded (inv.of_linkage (s.visit_linkage _))
  | walked => exact concluded (inv.of_linkage (s.walked_linkage _))
  | arrived => exact concluded (inv.of_linkage (s.arrive_linkage _ _))
  | graceEnded => exact concluded (inv.expireGrace bank)
  | dwellEnded due =>
    obtain ⟨scanning, running⟩ := due
    obtain ⟨-, -, -, -, dwells, -⟩ := (LinkSlot.stateOk_scan scanning).1 (inv.ok _).state
    exact concluded (inv.advance scanning (dwells.1 running))
  | trackLost due => exact concluded ((inv.rescan (by simp [due.1])).raise _ _)
  | carryLapsed due => exact concluded ((inv.demote due.1).raise _ _)
  | quietEnded => exact concluded (inv.of_linkage rfl)
  | released => exact inv.of_linkage rfl

end LinkInv

/-- Settles O56: an idle step stops and starts no timer, and every command keeps each slot as its rules say. -/
theorem linksStayInOrder : Obligations.LinksStayInOrder := by
  intro s t bank inv ran
  unfold step at ran
  split at ran
  · obtain rfl := Host.Outcome.next.inj ran
    exact inv.tick
  · rename_i rest _
    have queued : LinkInv { s with pending := rest } := inv.of_linkage rfl
    exact queued.taken bank (exec_taken ran)

end Sys2Proof.Machine
end

section
/-! What the Link Supervisor's requests answer and write, what its timers' expiries do, and the step that lets time pass
(O2, O41 to O44). -/

namespace Sys2Proof.Machine

/-- Settles O2: the idle step's definition. -/
theorem idleStepLetsTimePass : Obligations.IdleStepLetsTimePass := by
  intro s idle
  have ticks : step s = .next s.tick := by
    unfold step
    rw [idle]
  exact ticks

/-! ## The scan cursor (R138) -/

theorem LinkSlot.advance_eq (l : LinkSlot) (list : List Nat) : l.advance list = { l with
    cursor := if l.cursor + 1 < list.length then l.cursor + 1 else 0, dwell := some (l.scanDwell * 100000) } := by
  rw [← l.dwellMicros_eq]
  rfl

theorem LinkSlot.toScan_eq (l : LinkSlot) (list : List Nat) (run : RunState) : l.toScan list run = { l with
    state := .scan, cursor := 0, tracked := none, quality := none, demoteCounter := 0, trackMonitor := none
    carryMonitor := none, dwell := if list ≠ [] ∧ run = .running then some (l.scanDwell * 100000) else none } := by
  rw [LinkSlot.toScan, LinkSlot.toTop_eq]

/-! ## Expiries (R139, R143, R145) -/

/-- Settles O43: each expiry where it is due, by its command's definition. -/
theorem linkTimersExpire : Obligations.LinkTimersExpire := by
  intro s i l list
  refine ⟨fun scanning running => ?_, fun tracking expired => ?_, fun carrying expired => ?_⟩
  · have due : l.state = .scan ∧ l.dwell.isSome = true := ⟨scanning, Option.isSome_iff_ne_none.2 running⟩
    rw [← l.advance_eq list]
    exact congrArg _ (if_pos due)
  · have due : l.state = .track ∧ l.trackMonitor = some 0 := ⟨tracking, expired⟩
    rw [← l.toScan_eq list s.runState]
    exact congrArg _ (if_pos due)
  · have due : l.state = .carry ∧ l.carryMonitor = some 0 := ⟨carrying, expired⟩
    exact congrArg _ (if_pos due)

/-! ## OPEN_LINK and CLOSE_LINK (R147, R148) -/

section OpenAndClose

variable {s : State} {i : LinkId}

theorem openLinkRule_untracked (away : (s.link i).state ≠ .track) (b : List Byte) :
    openLinkRule (some (.openLink i)) b s = (s, .refusal .wrongState) := if_pos away

theorem openLinkRule_ineligible (tracking : (s.link i).state = .track) (ineligible : s.eligible i = false)
    (b : List Byte) : openLinkRule (some (.openLink i)) b s = (s, .refusal .ineligible) := by
  simp only [openLinkRule, tracking, ineligible, ne_eq, not_true, if_false, if_true]

theorem openLinkRule_lost (tracking : (s.link i).state = .track) (eligible : s.eligible i = true)
    (lost : s.isLost i = true) (b : List Byte) :
    openLinkRule (some (.openLink i)) b s = (s, .refusal .wrongState) := by
  simp [openLinkRule, tracking, eligible, lost]

theorem openLinkRule_taken (tracking : (s.link i).state = .track) (eligible : s.eligible i = true)
    (kept : s.isLost i = false) (b : List Byte) :
    let l := s.link i
    let t := s.setLink i { l with
      state := .carry, trackMonitor := none, carryMonitor := some l.carryMicros, demoteCounter := 0 }
    let unpark := decide (0 < s.migration.parkedTotal)
    openLinkRule (some (.openLink i)) b s = (if unpark then t.order .unpark else t,
      .ok (octets 1 i.val ++ octets 3 (l.tracked.getD 0) ++ octets 1 (l.quality.getD 0) ++ octets 3 l.carryMs
        ++ flagField unpark)) := by
  simp [openLinkRule, tracking, eligible, kept]

theorem closeLinkRule_refused (away : (s.link i).state ≠ .carry) (b : List Byte) :
    closeLinkRule (some (.closeLink i)) b s = (s, .refusal .wrongState) := if_pos away

theorem closeLinkRule_taken (carrying : (s.link i).state = .carry) (b : List Byte) :
    closeLinkRule (some (.closeLink i)) b s = (s.demote i, .ok (octets 1 i.val ++ octets 1 2)) :=
  if_neg (not_not.2 carrying)

end OpenAndClose

/-- Settles O44: R147's checks in their order, with and without parked contexts, and R148. -/
theorem linksOpenedAndClosed : Obligations.LinksOpenedAndClosed := by
  refine fun s r m i => ⟨fun serves => ⟨fun away => ?_, fun tracking ineligible => ?_, fun tracking eligible lost => ?_,
    fun tracking eligible kept unparked => ?_, fun tracking eligible kept parked => ?_⟩,
    fun serves => ⟨fun away => ?_, fun carrying => ?_⟩⟩
  · exact exec_ruled serves rfl (openLinkRule_untracked away m.body)
  · exact exec_ruled serves rfl (openLinkRule_ineligible tracking ineligible m.body)
  · exact exec_ruled serves rfl (openLinkRule_lost tracking eligible lost m.body)
  · have taken := openLinkRule_taken tracking eligible kept m.body
    simp only [unparked, lt_irrefl, decide_false, Bool.false_eq_true, if_false] at taken
    exact exec_ruled serves rfl taken
  · have taken := openLinkRule_taken tracking eligible kept m.body
    simp only [parked, decide_true, if_true] at taken
    exact exec_ruled serves rfl taken
  · exact exec_ruled serves rfl (closeLinkRule_refused away m.body)
  · exact exec_ruled serves rfl (closeLinkRule_taken carrying m.body)

/-! ## CONFIGURE_LINK (R133 to R135) -/

/-- The ranges of R133, clamp by clamp. -/
theorem LinkSlot.configured_eq (l : LinkSlot) (kind : LinkKind)
    (operator dwell track base f1 f2 threshold count : Nat) :
    l.configured kind operator dwell track base f1 f2 threshold count = { l with
      kind := kind, satOperator := min operator 999999, scanDwell := if dwell = 0 then 1 else dwell
      trackTime := if track = 0 then 1 else track, carryBase := if base = 0 then .ms10 else .ms100
      f1 := if f1 = 0 then 1 else f1, f2 := if f2 = 0 then 1 else f2, demoteThreshold := min threshold 63
      demoteCount := if count = 0 then 1 else min count 15 } := by
  have atLeast1 (n : Nat) : max n 1 = if n = 0 then 1 else n := by grind
  have counted : max 1 (min count 15) = if count = 0 then 1 else min count 15 := by grind
  have code : CarryBase.ofCode base = if base = 0 then .ms10 else .ms100 := by cases base <;> rfl
  simp only [LinkSlot.configured, atLeast1, counted, code, Config.maxCode]

/-- The carry monitor time of factors in their range (R134). -/
theorem LinkSlot.carryMs_eq (l : LinkSlot) : l.carryMs = (if l.carryBase = .ms10 then 10 else 100)
    * (if l.f1 = 1 ∧ l.f2 = 1 then 2 else l.f1 * l.f2) := by
  unfold LinkSlot.carryMs
  simp only [mul_eq_one]
  cases l.carryBase <;> rfl

/-- Settles O41: R135's table by the state held, and R134's time. -/
theorem configureLinkServed : Obligations.ConfigureLinkServed := by
  refine ⟨fun s r m i kind operator dwell track base f1 f2 threshold count serves => ?_, fun l => ?_⟩
  · intro l atLeast1 set list off scan newOperator served
    have configured : l.configured kind operator dwell track base f1 f2 threshold count = set := l.configured_eq ..
    have done {t : State} (slot : s.configureSlot i set = t) : served t := by
      subst slot
      rw [← configured]
      exact exec_ruled serves rfl rfl
    have listed : set.listIn s.live i = list := by cases kind <;> rfl
    have scans : set.toScan (set.listIn s.live i) s.runState = scan := by
      rw [listed]
      exact set.toScan_eq list s.runState
    have rescanned (seeking : l.state = .scan ∨ l.state = .track) (named : kind ≠ .unused)
        (moves : l.rescans set = true) : served (s.setLink i scan) := by
      rw [← scans]
      exact done (((State.configureSlot_seeking seeking).trans (if_neg named)).trans (if_pos moves))
    have kept (seeking : l.state = .scan ∨ l.state = .track) (named : kind ≠ .unused)
        (stays : ¬l.rescans set = true) : served (s.setLink i set) :=
      done (((State.configureSlot_seeking seeking).trans (if_neg named)).trans (if_neg stays))
    simp only [LinkSlot.rescans_iff] at rescanned kept
    refine ⟨fun state same => ?_, fun state named other => ?_, fun state none => ?_, fun state named moves => ?_,
      fun state named same stays => ?_, fun state named moves => ?_, fun state named same stays => ?_,
      fun state none => ?_, fun state named other => ?_, fun state named same => ?_⟩
    · exact done ((State.configureSlot_off state).trans (if_pos same))
    · rw [← scans]
      exact done ((State.configureSlot_off state).trans (if_neg (not_or.2 ⟨named, other⟩)))
    · exact done ((State.configureSlot_seeking state).trans (if_pos none))
    · exact rescanned (.inl state) named (moves.imp_right fun ⟨sat, differs⟩ => ⟨sat, differs, .inl state⟩)
    · exact kept (.inl state) named (not_or.2 ⟨not_not.2 same, fun ⟨sat, differs, _⟩ => stays ⟨sat, differs⟩⟩)
    · exact rescanned (.inr state) named
        (moves.imp_right fun ⟨⟨sat, differs⟩, untracked⟩ => ⟨sat, differs, .inr untracked⟩)
    · refine kept (.inr state) named (not_or.2 ⟨not_not.2 same, fun ⟨sat, differs, untracked⟩ => ?_⟩)
      exact stays ⟨⟨sat, differs⟩, untracked.resolve_left (by simp [l, state])⟩
    · exact done ((State.configureSlot_carry state).trans (if_pos none))
    · rw [← scans]
      exact done (((State.configureSlot_carry state).trans (if_neg named)).trans (if_pos other))
    · exact done (((State.configureSlot_carry state).trans (if_neg named)).trans (if_neg (not_not.2 same)))
  · intro base
    refine ⟨fun one one' => ?_, fun _ _ others => ?_⟩
    · rw [l.carryMs_eq, if_pos (c := l.f1 = 1 ∧ l.f2 = 1) ⟨one, one'⟩]
    · rw [l.carryMs_eq, if_neg others, Nat.mul_assoc]

/-! ## PROBE_RESULT (R140 to R144) -/

section Probe

variable {s : State} {i : LinkId} {success : Bool} {quality operator : Nat}

theorem probeResultRule_off (off : (s.link i).state = .off) (b : List Byte) :
    probeResultRule (some (.probeResult i success quality operator)) b s
      = (s, ⟨.wrongState, octets 1 0 ++ optOctets 3 none⟩) := by
  simp only [probeResultRule, State.probeRefused, State.tryOperator, off, if_true]
  rfl

theorem probeResultRule_taken (on : (s.link i).state ≠ .off) (b : List Byte) :
    probeResultRule (some (.probeResult i success quality operator)) b s
      = (s.probe i success quality operator, .ok ((s.probe i success quality operator).probeFields i)) := if_neg on

end Probe

/-- Settles O42: the result by the slot's state. -/
theorem probeResultServed : Obligations.ProbeResultServed := by
  intro s r m i success quality operator serves l list served heard weak demoted
  have done {t : State} (on : l.state ≠ .off) (probed : s.probe i success quality operator = t) : served t := by
    subst probed
    exact exec_ruled serves rfl (probeResultRule_taken on m.body)
  refine ⟨fun off => ?_, fun scanning ok tried => ?_, fun scanning ok untried => ?_, fun scanning fail listed => ?_,
    fun scanning fail empty => ?_, fun tracking heard => ?_, fun tracking unheard => ?_,
    fun carrying heard strong => ?_, fun carrying other below => ?_, fun carrying other reached => ?_⟩
  · exact exec_ruled serves rfl (probeResultRule_off off m.body)
  · subst ok
    exact done (by simp [scanning]) (State.probe_found scanning tried)
  · subst ok
    exact done (by simp [scanning]) (State.probe_other scanning untried)
  · subst fail
    rw [← l.advance_eq list]
    exact done (by simp [scanning]) ((State.probe_fail scanning).trans (if_neg listed))
  · subst fail
    exact done (by simp [scanning]) ((State.probe_fail scanning).trans (if_pos empty))
  · exact done (by simp [tracking]) ((State.probe_track tracking).trans (if_pos heard))
  · exact done (by simp [tracking]) ((State.probe_track tracking).trans (if_neg unheard))
  · exact done (by simp [carrying]) (State.probe_strong carrying heard strong)
  · exact done (by simp [carrying]) ((State.probe_weak carrying other).trans (State.probeWeak_counts below))
  · exact done (by simp [carrying]) ((State.probe_weak carrying other).trans (State.probeWeak_demotes reached))

end Sys2Proof.Machine
end

section
/-! Orders, the choice of the next walk, a walk taken back, and the slots that join the lost set (O45, O46). -/

namespace Sys2Proof.Machine

/-! ## The pending orders (R161, R164) -/

namespace Orders

variable (o : Orders) (k : WalkKind)

theorem set_true : o.set k true = {
    failover := o.failover || decide (k = .failover), dark := o.dark || decide (k = .dark)
    shift := o.shift || decide (k = .shift), unpark := o.unpark || decide (k = .unpark) } := by
  cases k <;> simp [Orders.set]

theorem set_false : o.set k false = {
    failover := o.failover && decide (k ≠ .failover), dark := o.dark && decide (k ≠ .dark)
    shift := o.shift && decide (k ≠ .shift), unpark := o.unpark && decide (k ≠ .unpark) } := by
  cases k <;> simp [Orders.set]

/-- Whether an order of a kind is pending. -/
def pending : Bool :=
  match k with
  | .failover => o.failover
  | .dark => o.dark
  | .shift => o.shift
  | .unpark => o.unpark

variable {o k}

theorem first_none (empty : ∀ k, o.pending k = false) : o.first = none := by
  have failover : o.failover = false := empty .failover
  have dark : o.dark = false := empty .dark
  have shift : o.shift = false := empty .shift
  have unpark : o.unpark = false := empty .unpark
  simp [Orders.first, failover, dark, shift, unpark]

/-- The order of R164: a kind is first where it is pending and none ahead of it is. -/
theorem first_some (here : o.pending k = true)
    (ahead : ∀ k' ∈ [WalkKind.failover, .dark, .shift, .unpark].takeWhile (· ≠ k), o.pending k' = false) :
    o.first = some k := by
  cases k <;> simp_all [Orders.first, Orders.pending]

end Orders

/-! ## Orders, the next walk, and a walk taken back (R123, R162, R164, R166, R171) -/

namespace Migration

variable {m : Migration} {w : Walk} {k : WalkKind}

theorem order_starts (stopped : m.walk = none) (k : WalkKind) : m.order false k = { m with
    walk := some ⟨k, 0, 0⟩, parkedCount := if k = .failover then 0 else m.parkedCount } := by
  simp only [Migration.order, stopped, Bool.false_eq_true, if_false]
  rfl

theorem order_pends {held : Bool} (waits : (m.walk = none ∧ held = true) ∨ (m.walk ≠ none ∧ k ≠ .failover)) :
    m.order held k = { m with orders := m.orders.set k true } := by
  obtain ⟨stopped, rfl⟩ | ⟨going, other⟩ := waits
  · simp only [Migration.order, stopped, if_true]
  · obtain ⟨w, walk⟩ := Option.ne_none_iff_exists'.1 going
    simp only [Migration.order, walk, other, if_false]

theorem order_preempts (walk : m.walk = some w) (other : w.kind ≠ .failover) (held : Bool) :
    m.order held .failover =
      { m with suspended := some w, walk := some ⟨.failover, 0, 0⟩, parkedCount := 0 } := by
  simp only [Migration.order, walk, other, if_true, if_false]
  rfl

theorem order_rejoins (walk : m.walk = some w) (failover : w.kind = .failover) (held : Bool) :
    m.order held .failover = { m with walk := some { w with endMark := w.cursor } } := by
  simp only [Migration.order, walk, failover, if_true]

theorem next_resumes (suspended : m.suspended = some w) (held : Bool) :
    m.next held = { m with walk := some w, suspended := none } := by
  simp only [Migration.next, suspended]

theorem next_stops {held : Bool} (free : m.suspended = none) (empty : held = true ∨ m.orders.first = none) :
    m.next held = { m with walk := none } := by
  obtain rfl | empty := empty
  · simp only [Migration.next, free, if_true]
  · simp only [Migration.next, free, empty, ite_self]

theorem next_takes (free : m.suspended = none) (first : m.orders.first = some k) : m.next false = { m with
    walk := some ⟨k, 0, 0⟩, orders := m.orders.set k false
    parkedCount := if k = .failover then 0 else m.parkedCount } := by
  simp only [Migration.next, free, first, Bool.false_eq_true, if_false]
  rfl

theorem withdraw_eq (m : Migration) (held : Bool) (k : WalkKind) :
    let cleared := { m with
      orders := m.orders.set k false, suspended := if m.suspended.map (·.kind) = some k then none else m.suspended }
    m.withdraw held k = if m.walk.map (·.kind) = some k then { cleared with walk := none }.next held else cleared := by
  have kept : m.suspended.filter (fun w => w.kind ≠ k) =
      if m.suspended.map (·.kind) = some k then none else m.suspended := by
    cases m.suspended with
    | none => rfl
    | some w => by_cases same : w.kind = k <;> simp [Option.filter, same]
  simp only [Migration.withdraw, kept]
  cases walk : m.walk with
  | none => simp
  | some w => simp

end Migration

/-- Settles O45: the cases of an order, of the choice and of a withdrawal. -/
theorem walksOrderedAndChosen : Obligations.WalksOrderedAndChosen := by
  intro g held k parked pending
  have standing (k : WalkKind) : pending k = g.orders.pending k := by cases k <;> rfl
  refine ⟨?_, fun waits => ?_, fun w walk other => Migration.order_preempts walk other held,
    fun w walk failover => Migration.order_rejoins walk failover held,
    fun w suspended => Migration.next_resumes suspended held, fun free empty => ?_, ?_, ?_⟩
  · rintro stopped rfl
    exact Migration.order_starts stopped k
  · rw [← Orders.set_true]
    exact Migration.order_pends waits
  · exact Migration.next_stops free (empty.imp_right fun empty => Orders.first_none fun k => standing k ▸ empty k)
  · rintro free rfl here ahead
    rw [← Orders.set_false]
    simp only [standing] at here ahead
    exact Migration.next_takes free (Orders.first_some here ahead)
  · rw [← Orders.set_false]
    exact g.withdraw_eq held k

/-! ## The lost set (R159, R166, R171) -/

@[simp] theorem Migration.order_shift (m : Migration) (held : Bool) (k : WalkKind) :
    (m.order held k).shift = m.shift := by
  unfold Migration.order Migration.begin
  repeat' split
  all_goals rfl

namespace State

variable {s : State}

/-- The abort of the SHIFT that is present (R171, R172). -/
theorem dropShift_eq {x : ShiftRecord} (present : s.migration.shift = some x) : s.dropShift = { s with
    migration := ({ s.migration with shift := none, draining := none } : Migration).withdraw s.isHeld .shift
    events := { s.events with
      pendingSet := s.events.pendingSet ||| 256#17
      details := { s.events.details with abortMoved := x.moved } } } := by
  simp only [State.dropShift, present]
  rfl

variable {i : LinkId}

/-- A slot that no SHIFT belongs to joins the lost set. -/
theorem joinLost_apart (apart : ∀ x, s.migration.shift = some x → x.src ≠ i ∧ x.dst ≠ i) : s.joinLost i =
    { s with migration := { s.migration with lost := s.migration.lost.set i true } }.order .failover := by
  have untouched : s.migration.shiftTouches i = false := by
    unfold Migration.shiftTouches
    split
    · rename_i x present
      simp [apart x present]
    · rfl
  simp only [State.joinLost, untouched, Bool.false_eq_true, if_false]

/-- A slot that the present SHIFT belongs to joins the lost set. -/
theorem joinLost_touched {x : ShiftRecord} (present : s.migration.shift = some x) (touched : x.src = i ∨ x.dst = i) :
    s.joinLost i =
      ({ s with migration := { s.migration with lost := s.migration.lost.set i true } }.order .failover).dropShift := by
  have touches : s.migration.shiftTouches i = true := by
    simpa [Migration.shiftTouches, present] using touched
  simp only [State.joinLost, touches, if_true]

end State

/-- Settles O46: the FAILOVER order, and behind it the abort of a SHIFT that the slot belongs to. -/
theorem lostSlotsJoin : Obligations.LostSlotsJoin := by
  intro s i held joined
  refine ⟨fun apart => State.joinLost_apart apart, fun x present touched => ?_⟩
  rw [State.joinLost_touched present touched, State.dropShift_eq (x := x) (by simpa [State.order] using present)]
  rfl

end Sys2Proof.Machine
end

section
/-! What the route requests, SHIFT and ABORT_SHIFT answer and write (O47, O48). -/

namespace Sys2Proof.Machine

/-! ## The Route Table (R152 to R155) -/

/-- A home entry put in its place among entries of other homes: before the first of a higher code. -/
theorem insertHome_split (home : Nat) (list : List LinkId) (homes : List (Nat × List LinkId))
    (others : ∀ e ∈ homes, e.1 ≠ home) : ∃ before after, homes = before ++ after
      ∧ insertHome home list homes = before ++ (home, list) :: after
      ∧ (∀ e ∈ before, e.1 < home) ∧ (∀ e, after.head? = some e → home < e.1) := by
  induction homes with
  | nil => exact ⟨[], [], rfl, rfl, by simp, by simp⟩
  | cons e rest ih =>
    obtain ⟨k, x⟩ := e
    unfold insertHome
    split
    · rename_i higher
      exact ⟨[], (k, x) :: rest, rfl, rfl, by simp, by simpa using higher⟩
    · rename_i notHigher
      obtain ⟨before, after, split, put, lower, higher⟩ := ih fun e member => others e (.tail _ member)
      have below : k < home := lt_of_le_of_ne (not_lt.1 notHigher) (others (k, x) (.head _))
      exact ⟨(k, x) :: before, after, by rw [split]; rfl, by rw [put]; rfl, by simpa [below] using lower, higher⟩

@[simp] theorem State.orderUnpark_routes (s : State) : s.orderUnpark.routes = s.routes := by
  unfold State.orderUnpark
  split <;> rfl

/-- UNPARK is ordered where contexts are parked (R153). -/
theorem State.orderUnpark_eq (s : State) :
    s.orderUnpark = if decide (0 < s.migration.parkedTotal) = true then s.order .unpark else s := by
  simp only [State.orderUnpark, decide_eq_true_eq]

section Routes

variable {s : State} {code : Nat} {list : List LinkId} (b : List Byte)

theorem setRouteRule_default : setRouteRule (some (.setRoute .default list)) b s =
    ({ s with routes := { s.routes with default := list } }.orderUnpark,
      .ok (RouteTarget.default.octets ++ slotListOctets list ++ octets 1 0 ++ octets 1 s.routes.homes.length
        ++ flagField (0 < s.migration.parkedTotal))) := by
  simp only [setRouteRule, State.orderUnpark_routes]
  rfl

theorem setRouteRule_full (absent : s.routes.own code = none) (full : 64 ≤ s.routes.homes.length) :
    setRouteRule (some (.setRoute (.home code) list)) b s = (s, .refusal .full) :=
  if_pos ⟨by rw [absent]; rfl, full⟩

theorem setRouteRule_home (room : s.routes.own code ≠ none ∨ s.routes.homes.length < 64) :
    setRouteRule (some (.setRoute (.home code) list)) b s =
      ({ s with routes := s.routes.put code list }.orderUnpark,
        .ok ((RouteTarget.home code).octets ++ slotListOctets list ++ flagField (s.routes.own code).isNone
          ++ octets 1 (s.routes.put code list).homes.length ++ flagField (0 < s.migration.parkedTotal))) := by
  have fits : ¬((s.routes.own code).isNone = true ∧ Config.homeEntryCount ≤ s.routes.homes.length) := by
    rintro ⟨absent, full⟩
    exact room.elim (fun present => present (Option.isNone_iff_eq_none.1 absent)) (not_lt.2 full)
  simp only [setRouteRule, if_neg fits, State.orderUnpark_routes]

theorem clearRouteRule_absent (absent : s.routes.own code = none) :
    clearRouteRule (some (.clearRoute (.home code))) b s = (s, .refusal .noEntry) :=
  if_pos (by rw [absent]; rfl)

theorem clearRouteRule_present (present : s.routes.own code ≠ none) :
    clearRouteRule (some (.clearRoute (.home code))) b s = ({ s with routes := s.routes.remove code },
      .ok (octets 3 code ++ octets 1 (s.routes.remove code).homes.length)) :=
  if_neg (by rwa [Option.isNone_iff_eq_none])

theorem readRouteRule_own (present : s.routes.own code = some list) :
    readRouteRule (some (.readRoute (.home code))) b s =
      (s, .ok (slotListOctets list ++ octets 1 0 ++ octets 1 s.routes.homes.length)) := by
  simp only [readRouteRule, present]
  rfl

theorem readRouteRule_absent (absent : s.routes.own code = none) :
    readRouteRule (some (.readRoute (.home code))) b s =
      (s, .ok (slotListOctets s.routes.default ++ octets 1 1 ++ octets 1 s.routes.homes.length)) := by
  simp only [readRouteRule, absent]
  rfl

end Routes

/-- Settles O47: each request by the entry that its home has. -/
theorem routesServed : Obligations.RoutesServed := by
  intro s r m own parked unparked listed others
  have unpark (routes : RouteTable) : { s with routes := routes }.orderUnpark = unparked { s with routes := routes } :=
    State.orderUnpark_eq _
  refine ⟨fun list serves => ?_, fun code list serves => ⟨fun absent full => ?_, fun room => ?_⟩, fun serves => ?_,
    fun code serves => ⟨fun absent => ?_, fun present => ?_⟩, fun serves => ?_,
    fun code serves => ⟨fun list present => ?_, fun absent => ?_⟩⟩
  · have done := setRouteRule_default (s := s) (list := list) m.body
    rw [unpark] at done
    exact exec_ruled serves rfl done
  · exact exec_ruled serves rfl (setRouteRule_full m.body absent full)
  · have apart : ∀ e ∈ others code, e.1 ≠ code := fun e member => by simpa using (List.mem_filter.1 member).2
    refine ⟨insertHome code list (others code), insertHome_split code list _ apart, ?_⟩
    have absent : (s.routes.own code).isNone = decide (own code = none) :=
      Bool.eq_iff_iff.2 (Option.isNone_iff_eq_none.trans decide_eq_true_iff.symm)
    have done := setRouteRule_home (s := s) (code := code) (list := list) m.body room
    rw [unpark, absent] at done
    exact exec_ruled serves rfl done
  · exact exec_ruled (rule := clearRouteRule) serves rfl rfl
  · exact exec_ruled serves rfl (clearRouteRule_absent m.body absent)
  · exact exec_ruled serves rfl (clearRouteRule_present m.body present)
  · exact exec_ruled (rule := readRouteRule) serves rfl rfl
  · exact exec_ruled serves rfl (readRouteRule_own m.body present)
  · exact exec_ruled serves rfl (readRouteRule_absent m.body absent)

/-! ## SHIFT and ABORT_SHIFT (R169, R171, R172) -/

section Shift

variable {s : State} {src dst : LinkId} (b : List Byte)

theorem shiftRule_busy (busy : s.migration.shift ≠ none) :
    shiftRule (some (.shift src dst)) b s = (s, .refusal .engineBusy) :=
  if_pos (Option.isSome_iff_ne_none.2 busy)

variable (free : s.migration.shift = none)

include free

/-- Where no SHIFT is present the other three checks decide, in their order (R169). -/
theorem shiftRule_free : shiftRule (some (.shift src dst)) b s =
    if (s.link dst).state ≠ .carry then (s, .refusal .wrongState)
    else if s.eligible dst = false then (s, .refusal .ineligible)
    else if s.isLost src = true then (s, .refusal .wrongState)
    else
      let t := { s with migration := { s.migration with
        shift := some ⟨src, dst, 0⟩, draining := some src } }.order .shift
      (t, .ok (octets 1 src.val ++ octets 1 dst.val ++ octets 1 (flagOctet t.migration.orders.shift)
        ++ octets 2 (s.store.routeCounts.get src))) := by
  simp only [shiftRule, free, Option.isSome_none, Bool.false_eq_true, if_false]

theorem shiftRule_uncarried (away : (s.link dst).state ≠ .carry) :
    shiftRule (some (.shift src dst)) b s = (s, .refusal .wrongState) := by
  rw [shiftRule_free b free, if_pos away]

variable (carrying : (s.link dst).state = .carry)

include carrying

theorem shiftRule_ineligible (ineligible : s.eligible dst = false) :
    shiftRule (some (.shift src dst)) b s = (s, .refusal .ineligible) := by
  rw [shiftRule_free b free, if_neg (not_not.2 carrying), if_pos ineligible]

variable (eligible : s.eligible dst = true)

include eligible

theorem shiftRule_lost (lost : s.isLost src = true) :
    shiftRule (some (.shift src dst)) b s = (s, .refusal .wrongState) := by
  rw [shiftRule_free b free, if_neg (not_not.2 carrying), if_neg (by simp [eligible]), if_pos lost]

theorem shiftRule_taken (kept : s.isLost src = false) : shiftRule (some (.shift src dst)) b s =
    let t := { s with migration := { s.migration with
      shift := some ⟨src, dst, 0⟩, draining := some src } }.order .shift
    (t, .ok (octets 1 src.val ++ octets 1 dst.val ++ octets 1 (flagOctet t.migration.orders.shift)
      ++ octets 2 (s.store.routeCounts.get src))) := by
  rw [shiftRule_free b free, if_neg (not_not.2 carrying), if_neg (by simp [eligible]), if_neg (by simp [kept])]

end Shift

theorem abortShiftRule_absent {s : State} (free : s.migration.shift = none) (b : List Byte) :
    abortShiftRule (some .abortShift) b s = (s, .refusal .wrongState) := by
  simp only [abortShiftRule, free]

theorem abortShiftRule_present {s : State} {x : ShiftRecord} (present : s.migration.shift = some x) (b : List Byte) :
    abortShiftRule (some .abortShift) b s =
      (s.dropShift, .ok (octets 1 x.src.val ++ octets 1 x.dst.val ++ octets 2 x.moved)) := by
  simp only [abortShiftRule, present]

/-- Settles O48: the checks in their order, the SHIFT taken, and the abort of the one that is present. -/
theorem shiftServed : Obligations.ShiftServed := by
  intro s r m
  refine ⟨fun src dst serves => ⟨fun busy => ?_, fun free away => ?_, fun free carrying ineligible => ?_,
    fun free carrying eligible lost => ?_, fun free carrying eligible kept => ?_⟩,
    fun serves => ⟨fun free => ?_, fun x present => ?_⟩⟩
  · exact exec_ruled serves rfl (shiftRule_busy m.body busy)
  · exact exec_ruled serves rfl (shiftRule_uncarried m.body free away)
  · exact exec_ruled serves rfl (shiftRule_ineligible m.body free carrying ineligible)
  · exact exec_ruled serves rfl (shiftRule_lost m.body free carrying eligible lost)
  · exact exec_ruled serves rfl (shiftRule_taken m.body free carrying eligible kept)
  · exact exec_ruled serves rfl (abortShiftRule_absent free m.body)
  · have done := abortShiftRule_present present m.body
    rw [State.dropShift_eq present] at done
    exact exec_ruled serves rfl done

end Sys2Proof.Machine
end

section
/-! The granted steps of the four walks (O49). -/

namespace Sys2Proof.Machine

/-! ## A granted step (R163) -/

/-- A granted walk step, its work and its completion given as other functions of the state. -/
theorem exec_step {s worked : State} {w : Walk} {k : WalkKind} {completed : State → State} (kind : w.kind = k)
    (walk : s.migration.walk = some w) (grant : s.arbiter = .granted (.walk w.kind))
    (work : k.work w.cursor s = worked) (complete : k.complete worked = completed worked) :
    exec k.command s = .next ({ (if w.cursor + 1 = w.endMark then completed worked
      else { worked with migration := { worked.migration with walk := some { w with cursor := w.cursor + 1 } } }) with
        arbiter := .idle }).conclude := by
  subst kind work
  rw [exec_walk, ← complete]
  simp only [State.walkStep, walk, grant, and_self, if_true]

/-- A routed context is IDLE or CARRYING (R3). -/
theorem Context.routed_iff (c : Context) : c.routed = true ↔ c.state = .idle ∨ c.state = .carrying := by
  simp [Context.routed]

namespace State

variable {s : State} {h : Handle} {i : LinkId}

/-! ## The FAILOVER walk (R165, R167) -/

theorem failoverWork_stays (stays : ¬(s.ctx h).routed = true ∨ ∀ i, (s.ctx h).route = some i → s.isLost i = false) :
    s.failoverWork h = s := by
  unfold State.failoverWork
  dsimp only
  split
  · rename_i lost routed route
    have kept : s.isLost lost = false := stays.resolve_left (not_not.2 routed) lost route
    simp only [kept, Bool.false_eq_true, if_false]
  all_goals rfl

section Lost

variable {lost : LinkId} (routed : (s.ctx h).routed = true) (route : (s.ctx h).route = some lost)
  (isLost : s.isLost lost = true)

include routed route isLost

theorem failoverWork_moves (selected : s.selectRoute (s.ctx h).home = some i) :
    s.failoverWork h = s.commit h { s.ctx h with route := some i } := by
  simp only [State.failoverWork, routed, route, isLost, selected, if_true]

theorem failoverWork_parks (unrouted : s.selectRoute (s.ctx h).home = none) :
    let t := s.commit h ((s.ctx h).park s.parkDeadline)
    s.failoverWork h = { t with migration := { t.migration with parkedCount := t.migration.parkedCount + 1 } } := by
  simp only [State.failoverWork, routed, route, isLost, unrouted, if_true]

end Lost

theorem anyCarry_false (s : State) : s.anyCarry = false ↔ ∀ i, (s.link i).state ≠ .carry := by
  simp only [State.anyCarry, List.any_eq_false, mem_slotIds, decide_eq_true_eq, true_imp_iff, ne_eq]

/-- BACKHAUL_LOST is raised where no slot carries and contexts are parked (R167). -/
theorem tellBackhaul_eq (s : State) :
    (if s.anyCarry = false ∧ 0 < s.migration.parkedTotal then s.raisePlain .backhaulLost else s) =
      { s with events := { s.events with pendingSet := s.events.pendingSet |||
        (if (∀ i, (s.link i).state ≠ .carry) ∧ 0 < s.migration.parkedTotal then 65536#17 else 0#17) } } := by
  simp only [s.anyCarry_false]
  split
  · rfl
  · rw [BitVec.or_zero]

/-- The completion of a FAILOVER walk: the lost set, the parked count and the two events (R167). -/
theorem failoverComplete_eq (s : State) :
    let backhaul := (∀ i, (s.link i).state ≠ .carry) ∧ 0 < s.migration.parkedTotal
    s.failoverComplete = { s with
      migration := { s.migration with lost := ⟨false, false, false, false⟩, parkedCount := 0 }
      events := { s.events with
        pendingSet := s.events.pendingSet ||| 512#17 ||| (if backhaul then 65536#17 else 0#17)
        details := { s.events.details with failoverParked := s.migration.parkedCount } } }.nextWalk := by
  unfold State.failoverComplete
  dsimp only
  rw [tellBackhaul_eq]
  rfl

/-! ## The UNPARK walk (R168) -/

theorem unparkWork_stays (stays : (s.ctx h).state ≠ .parked ∨ s.selectRoute (s.ctx h).home = none) :
    s.unparkWork h = s := by
  unfold State.unparkWork
  dsimp only
  split
  · rename_i parked
    rw [stays.resolve_left (not_not.2 parked)]
  · rfl

theorem unparkWork_restores (parked : (s.ctx h).state = .parked) (selected : s.selectRoute (s.ctx h).home = some i) :
    s.unparkWork h = s.commit h ((s.ctx h).restore i s.idleDeadline) := by
  simp only [State.unparkWork, parked, selected, if_true]

/-! ## The SHIFT walk (R170) -/

section Shift

variable {x : ShiftRecord} (present : s.migration.shift = some x)

include present

theorem shiftWork_stays (elsewhere : ¬((s.ctx h).routed = true ∧ (s.ctx h).route = some x.src)) :
    s.shiftWork h = s := by
  simp only [State.shiftWork, present, if_neg elsewhere]

theorem shiftWork_moves (here : (s.ctx h).routed = true ∧ (s.ctx h).route = some x.src) :
    let t := s.commit h { s.ctx h with route := some x.dst }
    s.shiftWork h =
      { t with migration := { t.migration with shift := some { x with moved := x.moved + 1 } } } := by
  simp only [State.shiftWork, present, if_pos here]

theorem shiftComplete_eq : s.shiftComplete = { s with
    migration := { s.migration with shift := none, draining := none }
    events := { s.events with
      pendingSet := s.events.pendingSet ||| 128#17
      details := { s.events.details with shiftMoved := x.moved } } }.nextWalk := by
  simp only [State.shiftComplete, present]
  rfl

end Shift

/-! ## The DARK walk (R128) -/

theorem darkWork_stays (carrying : (s.ctx h).state ≠ .carrying) (parked : (s.ctx h).state ≠ .parked) :
    s.darkWork h = s := by
  unfold State.darkWork
  split
  case h_1 state => exact absurd state carrying
  case h_2 state => exact absurd state parked
  all_goals rfl

theorem darkWork_silences (bearing : (s.ctx h).state = .carrying ∨ (s.ctx h).state = .parked) :
    s.darkWork h = s.commit h ((s.ctx h).closing false false false s.idleDeadline) := by
  have closes : (s.ctx h).closeBearers false s.idleDeadline = _ := Context.closeBearers_eq _ _
  rw [Bool.false_and, Bool.false_and] at closes
  rw [← closes]
  obtain state | state := bearing <;> simp only [State.darkWork, state]

end State

/-- Settles O49: each walk's work by the context at the cursor, and each walk's completion. -/
theorem walkStepsTaken : Obligations.WalkStepsTaken := by
  intro s w walk grant h c idle next stepped routed failoverDone shiftDone darkDone
  have routed_iff : c.routed = true ↔ routed := c.routed_iff
  refine ⟨fun kind => ?_, fun kind => ?_, fun kind x present => ?_, fun kind => ?_⟩
  · have step {t : State} (work : s.failoverWork h = t) : exec .failoverStep s = .next (stepped t failoverDone) :=
      exec_step (completed := failoverDone) kind walk grant work t.failoverComplete_eq
    refine ⟨fun stays => step (State.failoverWork_stays (by rwa [← routed_iff] at stays)),
      fun lost on route isLost => ⟨fun i selected => ?_, fun unrouted => ?_⟩⟩
    · exact step (State.failoverWork_moves (routed_iff.2 on) route isLost selected)
    · exact step (State.failoverWork_parks (routed_iff.2 on) route isLost unrouted)
  · have step {t : State} (work : s.unparkWork h = t) : exec .unparkStep s = .next (stepped t State.nextWalk) :=
      exec_step (completed := State.nextWalk) kind walk grant work rfl
    refine ⟨fun stays => step (State.unparkWork_stays stays), fun i parked selected => ?_⟩
    have restored := State.unparkWork_restores parked selected
    refine ⟨fun voice data => step ?_, fun bearer => step ?_⟩
    · rw [restored, Context.restore, if_neg (by simpa [Context.anyBearer] using ⟨voice, data⟩)]
      rfl
    · rw [restored, Context.restore, if_pos (by simpa [Context.anyBearer] using bearer)]
  · have step {t : State} {y : ShiftRecord} (work : s.shiftWork h = t) (held : t.migration.shift = some y) :
        exec .shiftStep s = .next (stepped t fun t => shiftDone t y.moved) :=
      exec_step (completed := fun t => shiftDone t y.moved) kind walk grant work (State.shiftComplete_eq held)
    refine ⟨fun elsewhere => step (State.shiftWork_stays present (by rwa [← routed_iff] at elsewhere)) present,
      fun on route => ?_⟩
    have moves := State.shiftWork_moves present ⟨routed_iff.2 on, route⟩
    exact step (y := { x with moved := x.moved + 1 }) moves rfl
  · have step {t : State} (work : s.darkWork h = t) : exec .darkStep s = .next (stepped t darkDone) :=
      exec_step (completed := darkDone) kind walk grant work rfl
    refine ⟨fun carrying parked => step (State.darkWork_stays carrying parked), fun carrying => step ?_,
      fun parked => step ?_⟩
    · rw [State.darkWork_silences (.inl carrying), Context.closing_eq, if_pos ⟨carrying, rfl, rfl⟩]
      rfl
    · rw [State.darkWork_silences (.inr parked), Context.closing_eq,
        if_neg fun away => absurd (parked.symm.trans away.1) (by decide)]

end Sys2Proof.Machine
end

section
/-! SUPPORT. What a lost slot asks of the walks (`Migration.FailoverWalks`), under each operation on walks and orders
(R161 to R166). -/

namespace Sys2Proof.Machine

/-! ## The handles that a walk has passed (R163, R166) -/

/-- A walk whose end mark is at its cursor has passed no handle. -/
theorem Walk.passed_none {w : Walk} (marked : w.endMark = w.cursor) (h : Handle) : ¬w.passed h := by
  simp [Walk.passed, marked]

/-- What a walk has passed behind its next step, and at its end mark every handle, it had passed before, or it stood
there. -/
theorem Walk.passed_cases {w : Walk} {h : Handle}
    (passed : { w with cursor := w.cursor + 1 }.passed h ∨ w.cursor + 1 = w.endMark) : w.passed h ∨ h = w.cursor := by
  have step : w.cursor - w.endMark + 1 = w.cursor + 1 - w.endMark := sub_add_eq_add_sub _ _ _
  have reached : h - w.endMark < w.cursor - w.endMark + 1 ∨ w.cursor - w.endMark + 1 = 0 := by
    rw [step]
    exact passed.imp_right sub_eq_zero.2
  exact (Handle.passed_cases reached).imp_right sub_left_inj.1

/-! ## The walks (R159, R162, R164, R166) -/

/-- The part of `RouteInv` about the walks: while a slot is lost a FAILOVER walk is in progress or pending, the handles
that it has passed are clear of lost slots, and it is never suspended. -/
structure Migration.FailoverWalks (m : Migration) (lost : Prop) (clear : Handle → Prop) : Prop where
  walk : lost → m.walk.map (·.kind) = some .failover ∨ m.orders.failover = true
  passed : ∀ w, m.walk = some w → w.kind = .failover → ∀ h, w.passed h → clear h
  suspended : ∀ w, m.suspended = some w → w.kind ≠ .failover

theorem Orders.set_failover (o : Orders) (k : WalkKind) (b : Bool) :
    (o.set k b).failover = if k = .failover then b else o.failover := by
  cases k <;> rfl

/-- No order goes ahead of a pending FAILOVER order (R164). -/
theorem Orders.first_failover {o : Orders} (pending : o.failover = true) : o.first = some .failover := if_pos pending

namespace Migration

@[simp] theorem order_lost (m : Migration) (held : Bool) (k : WalkKind) : (m.order held k).lost = m.lost := by
  unfold Migration.order Migration.begin
  repeat' split
  all_goals rfl

@[simp] theorem next_lost (m : Migration) (held : Bool) : (m.next held).lost = m.lost := by
  unfold Migration.next Migration.begin
  repeat' split
  all_goals rfl

@[simp] theorem next_shift (m : Migration) (held : Bool) : (m.next held).shift = m.shift := by
  unfold Migration.next Migration.begin
  repeat' split
  all_goals rfl

@[simp] theorem withdraw_lost (m : Migration) (held : Bool) (k : WalkKind) : (m.withdraw held k).lost = m.lost := by
  rw [m.withdraw_eq]
  split <;> simp

@[simp] theorem withdraw_shift (m : Migration) (held : Bool) (k : WalkKind) : (m.withdraw held k).shift = m.shift := by
  rw [m.withdraw_eq]
  split <;> simp

namespace FailoverWalks

variable {m : Migration} {lost : Prop} {clear : Handle → Prop} {k : WalkKind}

/-- A SHIFT begins or ends. -/
theorem setShift (walks : m.FailoverWalks lost clear) (record : Option ShiftRecord) (slot : Option LinkId) :
    { m with shift := record, draining := slot }.FailoverWalks lost clear :=
  ⟨walks.walk, walks.passed, walks.suspended⟩

/-- The next walk is chosen where a FAILOVER order is pending while a slot is lost (R164). -/
theorem next (ordered : lost → m.orders.failover = true) (suspended : ∀ w, m.suspended = some w → w.kind ≠ .failover)
    (held : Bool) : (m.next held).FailoverWalks lost clear := by
  cases free : m.suspended with
  | some w =>
    rw [next_resumes free]
    refine ⟨fun some => .inr (ordered some), fun x walk failover => ?_, by simp⟩
    obtain rfl := Option.some.inj walk
    exact absurd failover (suspended w free)
  | none =>
    by_cases stops : held = true ∨ m.orders.first = none
    · rw [next_stops free stops]
      exact ⟨fun some => .inr (ordered some), by simp, by simp [free]⟩
    · obtain ⟨going, waiting⟩ := not_or.1 stops
      obtain ⟨k, first⟩ := Option.ne_none_iff_exists'.1 waiting
      rw [eq_false_of_ne_true going, next_takes free first]
      refine ⟨fun some => .inl ?_, fun x walk _ h passed => ?_, by simp [free]⟩
      · exact first.symm.trans (Orders.first_failover (ordered some))
      · obtain rfl := Option.some.inj walk
        exact absurd passed (Walk.passed_none rfl h)

/-- An order of another kind leaves a FAILOVER walk where it is (R162). -/
theorem order_other (walks : m.FailoverWalks lost clear) (other : k ≠ .failover) (held : Bool) :
    (m.order held k).FailoverWalks lost clear := by
  have pends : { m with orders := m.orders.set k true }.FailoverWalks lost clear :=
    ⟨by simpa [Orders.set_failover, other] using walks.walk, walks.passed, walks.suspended⟩
  cases walk : m.walk with
  | none =>
    cases held with
    | true => rwa [order_pends (.inl ⟨walk, rfl⟩)]
    | false =>
      rw [order_starts walk]
      refine ⟨fun some => .inr ((walks.walk some).resolve_left (by simp [walk])), fun x starts failover => ?_,
        walks.suspended⟩
      obtain rfl := Option.some.inj starts
      exact absurd failover other
  | some w => rwa [order_pends (.inr ⟨by simp [walk], other⟩)]

/-- A FAILOVER order meets what any lost slot asks: the walk has passed no handle since (R162, R166). -/
theorem order_failover (suspended : ∀ w, m.suspended = some w → w.kind ≠ .failover) (held : Bool) :
    (m.order held .failover).FailoverWalks lost clear := by
  cases walk : m.walk with
  | none =>
    cases held with
    | true =>
      rw [order_pends (.inl ⟨walk, rfl⟩)]
      exact ⟨fun _ => .inr rfl, by simp [walk], suspended⟩
    | false =>
      rw [order_starts walk]
      refine ⟨fun _ => .inl rfl, fun x starts _ h passed => ?_, suspended⟩
      obtain rfl := Option.some.inj starts
      exact absurd passed (Walk.passed_none rfl h)
  | some w =>
    by_cases failover : w.kind = .failover
    · rw [order_rejoins walk failover]
      refine ⟨fun _ => .inl (congrArg some failover), fun x marked _ h passed => ?_, suspended⟩
      obtain rfl := Option.some.inj marked
      exact absurd passed (Walk.passed_none rfl h)
    · rw [order_preempts walk failover]
      refine ⟨fun _ => .inl rfl, fun x starts _ h passed => ?_, fun x waits => ?_⟩
      · obtain rfl := Option.some.inj starts
        exact absurd passed (Walk.passed_none rfl h)
      · obtain rfl := Option.some.inj waits
        exact failover

/-- A walk of another kind taken back leaves a FAILOVER walk where it is (R123, R171). -/
theorem withdraw (walks : m.FailoverWalks lost clear) (other : k ≠ .failover) (held : Bool) :
    (m.withdraw held k).FailoverWalks lost clear := by
  have kept : ∀ w, (if m.suspended.map (·.kind) = some k then none else m.suspended) = some w → w.kind ≠ .failover :=
    fun w waits => walks.suspended w (by split at waits <;> simp_all)
  have orders : (m.orders.set k false).failover = m.orders.failover := by rw [Orders.set_failover, if_neg other]
  rw [m.withdraw_eq]
  split
  · rename_i going
    refine next (fun some => ?_) kept held
    exact orders.trans ((walks.walk some).resolve_left (by simpa [going] using other))
  · exact ⟨fun some => (walks.walk some).imp_right orders.trans, walks.passed, kept⟩

end FailoverWalks

end Migration

end Sys2Proof.Machine
end

section
/-! SUPPORT. The routes on slots that carry or are lost (`RouteInv`), under the shared operations: those that leave the
slots in CARRY and the walks and bind contexts to slots in CARRY alone (`State.KeepsRoutes`), and those that order,
choose or withdraw a walk, or take a slot into or out of CARRY. -/

namespace Sys2Proof.Machine

/-! ## What a routed context rides (R3) -/

/-- The slot that a routed context rides. -/
def Context.carrier (c : Context) : Option LinkId := if c.routed then c.route else none

theorem Context.carrier_eq_some {c : Context} {i : LinkId} :
    c.carrier = some i ↔ c.routed = true ∧ c.route = some i := by
  simp [Context.carrier]

/-- A slot in CARRY that is not lost. -/
def State.Carries (s : State) (i : LinkId) : Prop := (s.link i).state = .carry ∧ s.isLost i = false

/-- The context at a handle rides no lost slot. -/
def State.Clear (s : State) (h : Handle) : Prop := ∀ i, (s.ctx h).carrier = some i → s.isLost i = false

/-- A slot that route selection finds carries (R156). -/
theorem State.selectRoute_carries {s : State} {home : Nat} {i : LinkId} (selected : s.selectRoute home = some i) :
    s.Carries i := by
  obtain ⟨carrying, -, kept, -⟩ := (s.qualifies_iff i).1 (List.find?_some selected)
  exact ⟨carrying, kept⟩

/-- `RouteInv` is about the slots that routed contexts ride, the slots in CARRY, the walks, and the SHIFT. -/
theorem routeInv_iff (s : State) : RouteInv s ↔
    (∀ h i, (s.ctx h).carrier = some i → (s.link i).state = .carry ∨ s.isLost i = true)
      ∧ (∀ i, (s.link i).state = .carry → s.isLost i = false)
      ∧ s.migration.FailoverWalks (∃ i, s.isLost i = true) s.Clear
      ∧ ∀ r, s.migration.shift = some r → (s.link r.dst).state = .carry := by
  have onto {h : Handle} {i : LinkId} := Context.carrier_eq_some (c := s.ctx h) (i := i)
  refine ⟨fun inv => ⟨fun h i rides => ?_, inv.carry, ⟨fun ⟨i, lost⟩ => inv.walk i lost,
    fun w going kind h behind i rides => ?_, inv.suspended⟩, inv.shift⟩,
    fun ⟨rides, carry, ⟨walk, passed, suspended⟩, shift⟩ => ⟨fun h i routed route => ?_, carry,
      fun i lost => walk ⟨i, lost⟩, fun w going kind h i behind routed route => ?_, suspended, shift⟩⟩
  · obtain ⟨routed, route⟩ := onto.1 rides
    exact inv.routed h i routed route
  · obtain ⟨routed, route⟩ := onto.1 rides
    exact inv.passed w going kind h i behind routed route
  · exact rides h i (onto.2 ⟨routed, route⟩)
  · exact passed w going kind h behind i (onto.2 ⟨routed, route⟩)

/-! ## Changes that keep the routes -/

/-- The slots in CARRY, the lost set, the walks, the orders and the SHIFT's to-slot stay as they are, and a context
comes to ride no slot but one that carries: with it, `RouteInv` is kept. -/
structure State.KeepsRoutes (s t : State) : Prop where
  carry : ∀ i, (t.link i).state = .carry ↔ (s.link i).state = .carry
  lost : t.migration.lost = s.migration.lost
  walk : t.migration.walk = s.migration.walk
  suspended : t.migration.suspended = s.migration.suspended
  orders : t.migration.orders = s.migration.orders
  shift : t.migration.shift.map (·.dst) = s.migration.shift.map (·.dst)
  carrier : ∀ h i, (t.ctx h).carrier = some i → (s.ctx h).carrier = some i ∨ s.Carries i

namespace State.KeepsRoutes

variable {s t u : State}

/-- A change that leaves the store and the Migration Engine, and the slots in CARRY. -/
theorem of_links (store : t.store = s.store) (migration : t.migration = s.migration)
    (carry : ∀ i, (t.link i).state = .carry ↔ (s.link i).state = .carry) : s.KeepsRoutes t where
  carry := carry
  lost := by rw [migration]
  walk := by rw [migration]
  suspended := by rw [migration]
  orders := by rw [migration]
  shift := by rw [migration]
  carrier := fun h i => by simpa only [State.ctx, store] using .inl

/-- A change that leaves the store, the link slots and the Migration Engine. -/
theorem of_same (store : t.store = s.store) (links : t.links = s.links) (migration : t.migration = s.migration) :
    s.KeepsRoutes t :=
  of_links store migration fun i => by simp only [State.link, links]

/-- A change of the Migration Engine and the events that leaves the lost set, the walks, the orders and the SHIFT's
to-slot. -/
theorem of_migration {m : Migration} {e : EventSet} (lost : m.lost = s.migration.lost)
    (walk : m.walk = s.migration.walk) (suspended : m.suspended = s.migration.suspended)
    (orders : m.orders = s.migration.orders) (shift : m.shift.map (·.dst) = s.migration.shift.map (·.dst)) :
    s.KeepsRoutes { s with migration := m, events := e } :=
  ⟨fun _ => .rfl, lost, walk, suspended, orders, shift, fun _ _ => .inl⟩

theorem refl (s : State) : s.KeepsRoutes s := .of_same rfl rfl rfl

theorem carries (st : s.KeepsRoutes t) (i : LinkId) : t.Carries i ↔ s.Carries i := by
  simp only [State.Carries, State.isLost, st.carry, st.lost]

theorem trans (st : s.KeepsRoutes t) (tu : t.KeepsRoutes u) : s.KeepsRoutes u where
  carry := fun i => (tu.carry i).trans (st.carry i)
  lost := tu.lost.trans st.lost
  walk := tu.walk.trans st.walk
  suspended := tu.suspended.trans st.suspended
  orders := tu.orders.trans st.orders
  shift := tu.shift.trans st.shift
  carrier := fun h i rides =>
    (tu.carrier h i rides).elim (st.carrier h i) fun carries => .inr ((st.carries i).1 carries)

/-- A change of one kind made for each member of a list. -/
theorem foldl {α : Type} {f : State → α → State} (each : ∀ (t : State) (a : α), t.KeepsRoutes (f t a))
    (list : List α) (s : State) : s.KeepsRoutes (list.foldl f s) := by
  induction list generalizing s with
  | nil => exact .refl s
  | cons a rest ih => exact (each s a).trans (ih _)

/-- A context written, that rides the slot it rode or one that carries. -/
theorem commit {h : Handle} {c : Context}
    (rides : ∀ i, c.carrier = some i → (s.ctx h).carrier = some i ∨ s.Carries i) : s.KeepsRoutes (s.commit h c) where
  carry := fun i => by rw [State.commit_frame]; rfl
  lost := by rw [State.commit_frame]
  walk := by rw [State.commit_frame]
  suspended := by rw [State.commit_frame]
  orders := by rw [State.commit_frame]
  shift := by rw [State.commit_frame]
  carrier := fun k i => by
    rw [State.ctx_commit]
    split
    · rename_i same
      exact same ▸ rides i
    · exact .inl

theorem commit_same {h : Handle} {c : Context} (same : c.carrier = (s.ctx h).carrier) : s.KeepsRoutes (s.commit h c) :=
  .commit fun _ rides => .inl (same ▸ rides)

theorem commit_unrouted {h : Handle} {c : Context} (unrouted : c.carrier = none) : s.KeepsRoutes (s.commit h c) :=
  .commit fun _ rides => by rw [unrouted] at rides; cases rides

/-- A context written, with a slot that carries for its route (R156). -/
theorem commit_bound {h : Handle} {c : Context} {i : LinkId} (route : c.route = some i) (carries : s.Carries i) :
    s.KeepsRoutes (s.commit h c) :=
  .commit fun j rides => by
    obtain rfl : i = j := Option.some.inj (route.symm.trans (Context.carrier_eq_some.1 rides).2)
    exact .inr carries

/-- A link slot replaced, in CARRY where it was. -/
theorem setLink {i : LinkId} {l : LinkSlot} (same : l.state = .carry ↔ (s.link i).state = .carry) :
    s.KeepsRoutes (s.setLink i l) :=
  .of_links rfl rfl fun j => by
    rw [State.link_setLink]
    split
    · rename_i here
      rw [here, same]
    · rfl

/-- A link slot outside CARRY replaced by one outside CARRY. -/
theorem setLink_away {i : LinkId} {l : LinkSlot} (before : (s.link i).state ≠ .carry) (after : l.state ≠ .carry) :
    s.KeepsRoutes (s.setLink i l) := .setLink (iff_of_false after before)

end State.KeepsRoutes

theorem RouteInv.of_keeps {s t : State} (inv : RouteInv s) (keeps : s.KeepsRoutes t) : RouteInv t := by
  obtain ⟨rides, carry, ⟨walk, passed, suspended⟩, shift⟩ := (routeInv_iff s).1 inv
  have lost (i : LinkId) : t.isLost i = s.isLost i := by simp only [State.isLost, keeps.lost]
  refine (routeInv_iff t).2 ⟨fun h i onto => ?_, fun i => ?_, ⟨?_, fun w going kind h behind i onto => ?_, ?_⟩,
    fun r present => ?_⟩
  · rw [keeps.carry, lost]
    exact (keeps.carrier h i onto).elim (rides h i) fun carries => .inl carries.1
  · rw [keeps.carry, lost]
    exact carry i
  · simpa only [lost, keeps.walk, keeps.orders] using walk
  · rw [lost]
    exact (keeps.carrier h i onto).elim (passed w (keeps.walk ▸ going) kind h behind i) And.right
  · simpa only [keeps.suspended] using suspended
  · obtain ⟨x, before, same⟩ := Option.map_eq_some_iff.1 (keeps.shift.symm.trans (congrArg _ present))
    have dst : r.dst = x.dst := same.symm
    rw [keeps.carry, dst]
    exact shift x before

namespace RouteInv

variable {s : State}

theorem raise (inv : RouteInv s) (e : Event) (d : Details) : RouteInv (s.raise e d) :=
  inv.of_keeps (.of_same rfl rfl rfl)

theorem walks (inv : RouteInv s) : s.migration.FailoverWalks (∃ i, s.isLost i = true) s.Clear :=
  ((routeInv_iff s).1 inv).2.2.1

/-- Other walks, with the lost set as it is and no SHIFT but the one there was. -/
theorem of_migration (inv : RouteInv s) {m : Migration}
    (walks : m.FailoverWalks (∃ i, s.isLost i = true) s.Clear) (lost : m.lost = s.migration.lost)
    (shift : ∀ r, m.shift = some r → s.migration.shift = some r) : RouteInv { s with migration := m } := by
  obtain ⟨rides, carry, -, carries⟩ := (routeInv_iff s).1 inv
  have isLost : { s with migration := m }.isLost = s.isLost := by
    funext i
    simp only [State.isLost, lost]
  rw [routeInv_iff]
  unfold State.Clear
  rw [isLost]
  exact ⟨rides, carry, walks, fun r present => carries r (shift r present)⟩

/-! ## Walks and orders -/

theorem order (inv : RouteInv s) {k : WalkKind} (other : k ≠ .failover) : RouteInv (s.order k) :=
  inv.of_migration (inv.walks.order_other other s.isHeld) (by simp) (by simp)

theorem orderUnpark (inv : RouteInv s) : RouteInv s.orderUnpark := by
  unfold State.orderUnpark
  split
  · exact inv.order (by decide)
  · exact inv

/-- The next walk, where a FAILOVER order is pending while a slot is lost. -/
theorem nextWalk (inv : RouteInv s) (ordered : (∃ i, s.isLost i = true) → s.migration.orders.failover = true) :
    RouteInv s.nextWalk :=
  inv.of_migration (.next ordered inv.suspended s.isHeld) (by simp) (by simp)

/-- The next walk in place of one of another kind than FAILOVER, or where none is in progress. -/
theorem nextWalk_other (inv : RouteInv s) (other : s.migration.walk.map (·.kind) ≠ some .failover) :
    RouteInv s.nextWalk :=
  inv.nextWalk fun ⟨i, lost⟩ => (inv.walk i lost).resolve_left other

theorem cancelDark (inv : RouteInv s) : RouteInv s.cancelDark :=
  inv.of_migration (inv.walks.withdraw (by decide) s.isHeld) (by simp) (by simp)

theorem dropShift (inv : RouteInv s) : RouteInv s.dropShift := by
  unfold State.dropShift
  split
  · exact inv
  · have walks := (inv.walks.setShift none none).withdraw (k := .shift) (by decide) s.isHeld
    exact (inv.of_migration walks (by simp) (by simp)).raise _ _

/-! ## Slots that leave and enter CARRY (R146 to R148, R159) -/

/-- A slot leaves CARRY and is lost, with walks that meet what a lost slot asks and no SHIFT to that slot. -/
theorem lose (inv : RouteInv s) {i : LinkId} {l : LinkSlot} (left : l.state ≠ .carry) {m : Migration}
    (lost : m.lost = s.migration.lost.set i true) (walks : ∀ lost clear, m.FailoverWalks lost clear)
    (shift : ∀ r, m.shift = some r → s.migration.shift = some r ∧ r.dst ≠ i) :
    RouteInv { s.setLink i l with migration := m } := by
  obtain ⟨rides, carry, -, carries⟩ := (routeInv_iff s).1 inv
  have isLost (j : LinkId) : { s.setLink i l with migration := m }.isLost j = if j = i then true else s.isLost j := by
    simp only [State.isLost, lost, Four.get_set]
  have link (j : LinkId) : { s.setLink i l with migration := m }.link j = if j = i then l else s.link j :=
    s.link_setLink i j l
  refine (routeInv_iff _).2 ⟨fun h j onto => ?_, fun j carrying => ?_, walks _ _, fun r present => ?_⟩
  · rw [link, isLost]
    split
    · exact .inr rfl
    · exact rides h j onto
  · rw [link] at carrying
    rw [isLost]
    split at carrying
    · exact absurd carrying left
    · rename_i other
      rw [if_neg other]
      exact carry j carrying
  · obtain ⟨before, apart⟩ := shift r present
    rw [link, if_neg apart]
    exact carries r before

/-- A slot that leaves CARRY joins the lost set. -/
theorem leave (inv : RouteInv s) (i : LinkId) {l : LinkSlot} (left : l.state ≠ .carry) :
    RouteInv ((s.setLink i l).joinLost i) := by
  let marked : Migration := { s.migration with lost := s.migration.lost.set i true }
  have joined (lost : Prop) (clear : Handle → Prop) : (marked.order s.isHeld .failover).FailoverWalks lost clear :=
    .order_failover (m := marked) inv.suspended s.isHeld
  have same : (marked.order s.isHeld .failover).shift = s.migration.shift := marked.order_shift _ _
  have lost : (marked.order s.isHeld .failover).lost = s.migration.lost.set i true := marked.order_lost _ _
  by_cases touched : ∃ x, s.migration.shift = some x ∧ (x.src = i ∨ x.dst = i)
  · obtain ⟨x, present, member⟩ := touched
    have aborted : RouteInv { s.setLink i l with migration :=
        { marked.order s.isHeld .failover with shift := none, draining := none }.withdraw s.isHeld .shift } := by
      refine inv.lose left ((Migration.withdraw_lost _ _ _).trans lost) (fun lost clear => ?_) (by simp)
      exact ((joined lost clear).setShift none none).withdraw (by decide) _
    rw [State.joinLost_touched (s := s.setLink i l) present member, State.dropShift_eq (same.trans present)]
    exact aborted.of_keeps (.of_same rfl rfl rfl)
  · rw [State.joinLost_apart (s := s.setLink i l) fun x present => not_or.1 fun member => touched ⟨x, present, member⟩]
    refine inv.lose left lost joined fun r present => ?_
    have before : s.migration.shift = some r := same.symm.trans present
    exact ⟨before, fun member => touched ⟨r, before, .inr member⟩⟩

/-- A slot that is not lost enters CARRY (R147). -/
theorem enter (inv : RouteInv s) {i : LinkId} (kept : s.isLost i = false) (l : LinkSlot) (entered : l.state = .carry) :
    RouteInv (s.setLink i l) := by
  obtain ⟨rides, carry, walks, carries⟩ := (routeInv_iff s).1 inv
  have link (j : LinkId) : ((s.setLink i l).link j).state = .carry ↔ j = i ∨ (s.link j).state = .carry := by
    rw [State.link_setLink]
    split <;> simp [*]
  refine (routeInv_iff _).2 ⟨fun h j onto => ?_, fun j carrying => ?_, walks, fun r present => ?_⟩
  · exact (rides h j onto).imp_left fun carrying => (link j).2 (.inr carrying)
  · obtain rfl | carrying := (link j).1 carrying
    · exact kept
    · exact carry j carrying
  · exact (link _).2 (.inr (carries r present))

theorem demote (inv : RouteInv s) (i : LinkId) : RouteInv (s.demote i) := inv.leave i (by simp [LinkSlot.toTrack])

/-- The LIVE profile's action on a link slot (R149). -/
theorem zoneChange (inv : RouteInv s) (i : LinkId) : RouteInv (s.zoneChange i) := by
  have rescan (l : LinkSlot) (before : (s.link i).state ≠ .carry) (after : l.state ≠ .carry) :
      RouteInv ((s.setLink i l).raiseLinkLost i) :=
    (inv.of_keeps (.setLink_away before after)).raise _ _
  unfold State.zoneChange
  dsimp only
  split
  · exact inv
  · split
    · exact inv.of_keeps (.setLink .rfl)
    · exact inv
  · rename_i tracking
    have before : (s.link i).state ≠ .carry := by simp [tracking]
    split
    · split
      · split
        · exact inv.of_keeps (.setLink .rfl)
        · exact rescan _ before (by simp [LinkSlot.toScan, LinkSlot.toTop])
      · exact rescan _ before (by simp [LinkSlot.toScan, LinkSlot.toTop])
    · exact inv
  · split
    · exact inv
    · exact (inv.demote i).raise _ _

/-- A CONFIGURE_LINK's settings, with the link state the slot held (R135). -/
theorem configureSlot (inv : RouteInv s) (i : LinkId) {new : LinkSlot} (held : new.state = (s.link i).state) :
    RouteInv (s.configureSlot i new) := by
  have scan (list : List Nat) (run : RunState) : (new.toScan list run).state ≠ .carry := by
    simp [LinkSlot.toScan, LinkSlot.toTop]
  have off : new.toOff.state ≠ .carry := by simp [LinkSlot.toOff]
  have kept : RouteInv (s.setLink i new) := inv.of_keeps (.setLink (by rw [held]))
  cases state : (s.link i).state with
  | off =>
    rw [State.configureSlot_off state]
    split
    · exact kept
    · exact inv.of_keeps (.setLink_away (by simp [state]) (scan _ _))
  | scan =>
    rw [State.configureSlot_seeking (.inl state)]
    repeat' split
    · exact inv.of_keeps (.setLink_away (by simp [state]) off)
    · exact inv.of_keeps (.setLink_away (by simp [state]) (scan _ _))
    · exact kept
  | track =>
    rw [State.configureSlot_seeking (.inr state)]
    repeat' split
    · exact inv.of_keeps (.setLink_away (by simp [state]) off)
    · exact inv.of_keeps (.setLink_away (by simp [state]) (scan _ _))
    · exact kept
  | carry =>
    rw [State.configureSlot_carry state]
    repeat' split
    · exact inv.leave i off
    · exact inv.leave i (scan _ _)
    · exact kept

/-- A probe result (R140 to R144). -/
theorem probe (inv : RouteInv s) (i : LinkId) (success : Bool) (quality operator : Nat) :
    RouteInv (s.probe i success quality operator) := by
  cases state : (s.link i).state with
  | off => rwa [State.probe_off state]
  | scan =>
    cases success with
    | false =>
      rw [State.probe_fail state]
      split
      · exact inv
      · exact inv.of_keeps (.setLink .rfl)
    | true =>
      by_cases tried : (s.candidates i)[(s.link i).cursor]? = some operator
      · rw [State.probe_found state tried]
        exact (inv.of_keeps (.setLink_away (by simp [state]) (by simp))).raise _ _
      · rwa [State.probe_other state tried]
  | track =>
    rw [State.probe_track state]
    split
    · exact inv.of_keeps (.setLink .rfl)
    · exact inv
  | carry =>
    by_cases strong : (success = true ∧ (s.link i).tracked = some operator) ∧ (s.link i).demoteThreshold ≤ quality
    · rw [State.probe_strong state strong.1 strong.2]
      exact inv.of_keeps (.setLink .rfl)
    · rw [State.probe_weak state strong]
      unfold State.probeWeak
      dsimp only
      split
      · rw [State.demote, State.setLink_setLink]
        exact (inv.leave i (by simp [LinkSlot.toTrack])).raise _ _
      · exact inv.of_keeps (.setLink .rfl)

/-! ## Coverage and profiles -/

theorem setMode (inv : RouteInv s) (mode : Mode) : RouteInv (s.setMode mode) := inv.of_keeps (.of_same rfl rfl rfl)

theorem recompute (inv : RouteInv s) : RouteInv s.recompute.1 := by
  unfold State.recompute
  split
  case h_1 | h_5 | h_9 | h_12 => exact inv
  case h_3 | h_6 => exact (inv.setMode _).order (by decide)
  case h_7 | h_8 => exact inv.cancelDark.setMode _
  all_goals exact inv.setMode _

theorem handOver (inv : RouteInv s) : RouteInv s.handOver := by
  have turned (slots : List LinkId) {t : State} (kept : RouteInv t) : RouteInv (slots.foldl State.zoneChange t) := by
    induction slots generalizing t with
    | nil => exact kept
    | cons i rest ih => exact ih (kept.zoneChange i)
  exact turned slotIds inv.recompute

theorem promote (inv : RouteInv s) (i : ProfileId) : RouteInv (s.promote i) := by
  have exchanged : RouteInv (s.exchangeRoles i) := by
    rw [s.exchangeRoles_frame]
    exact inv.of_keeps (.of_same rfl rfl rfl)
  exact exchanged.handOver

theorem stage (inv : RouteInv s) (i : ProfileId) : RouteInv (s.stage i) := by
  have freed : s.KeepsRoutes ((s.stagingFrees (s.bank.slots.get i).zone).foldl State.freeSlot s) :=
    .foldl (f := State.freeSlot) (fun _ _ => .of_same rfl rfl rfl) _ s
  unfold State.stage
  dsimp only
  split <;> exact inv.of_keeps (freed.trans (.of_same rfl rfl rfl))

theorem enterZone (inv : RouteInv s) (zone : Nat) : RouteInv (s.enterZone zone) := by
  have entered : RouteInv { s with bank := { s.bank with presentZone := zone } } :=
    inv.of_keeps (.of_same rfl rfl rfl)
  unfold State.enterZone
  dsimp only
  split
  · exact entered
  · exact entered.raise _ _
  · exact entered.promote _
  · exact entered.promote _
  · exact entered
  · exact entered

/-! ## The end of a hold (R26) -/

theorem endHold (inv : RouteInv s) : RouteInv s.endHold := by
  have ended : RouteInv { s with hold := ⟨.notHeld, none, false⟩ } := inv.of_keeps (.of_same rfl rfl rfl)
  unfold State.endHold
  dsimp only
  split
  · rename_i walk
    exact ended.nextWalk_other (by simp [walk])
  · exact ended

theorem revokeHold (inv : RouteInv s) : RouteInv s.revokeHold := inv.endHold.raise _ _

end RouteInv

end Sys2Proof.Machine
end

section
/-! SUPPORT. The routes on slots that carry or are lost, under every rule of a request kind. -/

namespace Sys2Proof.Machine

/-! ## The slot ridden, under the operations on a context -/

namespace Context

variable (c : Context)

theorem renew_carrier (d : Nat) : (c.renew d).carrier = c.carrier := by
  rw [c.renew_eq]
  rfl

/-- A CARRYING context left with no bearer stays on its slot (R46, R47). -/
theorem closing_carrier (voiceOpen emergency dataOpen : Bool) (d : Nat) :
    (c.closing voiceOpen emergency dataOpen d).carrier = c.carrier := by
  unfold closing
  dsimp only
  split
  · rename_i left
    simp [Context.carrier, Context.routed, left.1]
  · rfl

theorem closeBearer_carrier (kind : BearerKind) (d : Nat) : (c.closeBearer kind d).carrier = c.carrier := by
  cases kind with
  | voice => exact c.closing_carrier _ _ _ d
  | data => exact c.closing_carrier _ _ _ d

theorem closeBearers_carrier (keep : Bool) (d : Nat) : (c.closeBearers keep d).carrier = c.carrier := by
  rw [closeBearers_eq]
  exact c.closing_carrier _ _ _ d

/-- An IDLE context that starts to carry stays on its slot (R45). -/
theorem openBearer_carrier (kind : BearerKind) (emergency : Bool) :
    (c.openBearer kind emergency).carrier = c.carrier := by
  cases kind
  all_goals
    unfold Context.openBearer
    dsimp only
    split
    · rename_i idle
      simp [Context.carrier, Context.routed, idle]
    · rfl

theorem meetCap_carrier (d : Nat) : (c.meetCap d).carrier = c.carrier := by
  unfold Context.meetCap
  split
  · exact closeBearers_carrier { c with barred := true } true d
  · rfl

theorem setCap_carrier (cap : Nat) (policy : Policy) : (c.setCap cap policy).carrier = c.carrier := by
  unfold Context.setCap
  dsimp only
  split <;> rfl

theorem addedFlags_carrier (kind : AllowanceKind) : (c.addedFlags kind).carrier = c.carrier := by
  cases kind <;> rfl

end Context

theorem Rated.apply_carrier (r : Rated) (c : Context) (active : Bool) (d : Nat) :
    (r.apply c active d).carrier = c.carrier := by
  rw [r.apply_eq]
  split
  · exact (r.charge c active d).meetCap_carrier d
  · rfl

/-! ## The rules that keep the routes -/

open State

/-- An admitted context rides the slot selected, or none (R37). -/
theorem State.admit_keepsRoutes (s : State) (h : Handle) (plan : Fin 8) (cap : Nat) (policy : Policy) :
    s.KeepsRoutes (s.commit h (s.admitted (s.ctx h) plan cap policy)) := by
  unfold State.admitted
  dsimp only
  split
  · rename_i i selected
    exact .commit_bound rfl (selectRoute_carries selected)
  · exact .commit_unrouted rfl

theorem State.retireContext_keepsRoutes (s : State) (h : Handle) : s.KeepsRoutes (s.retireContext h) := by
  unfold State.retireContext
  split
  · exact .commit_unrouted rfl
  · exact .commit_unrouted rfl

theorem State.tellReport_keepsRoutes (s : State) (h : Handle) (tags : List Byte) (met : Bool) :
    s.KeepsRoutes (s.tellReport h tags met) := by
  rw [← Bool.decide_coe met, s.tellReport_eq]
  exact .of_same rfl rfl rfl

theorem State.startDwell_keepsRoutes (s : State) (i : LinkId) : s.KeepsRoutes (s.startDwell i) := by
  unfold State.startDwell
  dsimp only
  split
  · exact .setLink .rfl
  · exact .refl s

theorem State.disableQueue_keepsRoutes (s : State) (r : RequesterId) (queue : List Message) :
    s.KeepsRoutes (s.disableQueue r queue) :=
  .foldl (f := fun t (m : Message) => t.send ⟨r, m.kind, m.tag, .disabled, []⟩) (fun _ _ => .of_same rfl rfl rfl)
    queue s

/-- The kinds whose rule may take a slot into or out of CARRY, order or withdraw a walk, or begin or end a SHIFT. -/
def Kind.reroutes (k : Kind) : Bool :=
  [Kind.releaseStore, .stageProfile, .enterZone, .setCeiling, .configureLink, .probeResult, .openLink, .closeLink,
    .setRoute, .shift, .abortShift, .clearVoyage].contains k

section Rules

variable {k : Kind} {rule : Option Request → List Byte → State → State × Reply} (q : Option Request) (b : List Byte)

/-- Every other rule leaves the store, the link slots and the Migration Engine, or writes one context that rides the
slot it rode, one that carries, or none, or restarts dwells. -/
theorem rule_keepsRoutes (ruled : k.rule = some rule) (leaves : k.reroutes = false) (s : State) :
    s.KeepsRoutes (rule q b s).1 := by
  cases k
  case holdStore => cases ruled
  all_goals obtain rfl := Option.some.inj ruled
  case lookup | lookupHandle | nextSettlement | openProfile | writeProfileHeader | writeTariffRow | writeCandidates
      | readProfile | discardProfile | clearRoute | readRoute | readEvents | setEventMask | ackEvents | setLimits
      | readStatus =>
    simp only [lookupRule, lookupHandleRule, nextSettlementRule, openProfileRule, writeProfileHeaderRule,
      writeTariffRowRule, writeCandidatesRule, readProfileRule, discardProfileRule, clearRouteRule, readRouteRule,
      readEventsRule, setEventMaskRule, ackEventsRule, setLimitsRule, readStatusRule]
    (repeat' split) <;> exact .of_same rfl rfl rfl
  case attach =>
    unfold attachRule
    repeat' split
    · exact .commit_same (Context.renew_carrier _ _)
    · exact .refl s
    · exact .refl s
    · exact .commit_unrouted rfl
    · exact .refl s
  case openBearer =>
    unfold openBearerRule
    repeat' split
    · exact .refl s
    · exact .commit_same (Context.openBearer_carrier _ _ _)
    · exact .refl s
  case closeBearer =>
    unfold closeBearerRule
    dsimp only
    repeat' split
    case isFalse => exact .commit_same (Context.closeBearer_carrier _ _ _)
    all_goals exact .refl s
  case detach =>
    unfold detachRule
    repeat' split
    · exact .refl s
    · exact (s.retireContext_keepsRoutes _).trans (.of_same rfl rfl rfl)
    · exact .refl s
  case retire =>
    unfold retireRule
    repeat' split
    case isFalse.isFalse => exact s.retireContext_keepsRoutes _
    all_goals exact .refl s
  case admitContext =>
    unfold admitContextRule
    repeat' split
    case isFalse.isFalse => exact s.admit_keepsRoutes _ _ _ _
    all_goals exact .refl s
  case refuse =>
    unfold refuseRule
    repeat' split
    case isFalse.isFalse => exact .commit_unrouted rfl
    all_goals exact .refl s
  case nextProbation =>
    unfold nextProbationRule
    repeat' split
    · exact .refl s
    · exact .commit_same rfl
    · exact .refl s
  case settleContext =>
    unfold settleContextRule
    repeat' split
    · exact .refl s
    · exact .commit_unrouted rfl
    all_goals exact .refl s
  case addAllowance =>
    unfold addAllowanceRule
    dsimp only
    repeat' split
    case isFalse => exact .commit_same (Context.addedFlags_carrier _ _)
    case isFalse => exact .commit_same (Context.addedFlags_carrier _ _)
    all_goals exact .refl s
  case removeAllowance =>
    unfold removeAllowanceRule
    dsimp only
    repeat' split
    · exact .refl s
    · exact .refl s
    · exact .commit_same rfl
    · exact .refl s
  case setCap =>
    unfold setCapRule
    dsimp only
    repeat' split
    · exact .refl s
    · exact .commit_same (Context.setCap_carrier _ _ _)
    · exact .refl s
  case setPlan =>
    unfold setPlanRule
    dsimp only
    repeat' split
    · exact .refl s
    · exact .commit_same rfl
    · exact .refl s
  case reportUsage =>
    unfold reportUsageRule
    dsimp only
    split
    · split
      · exact .refl s
      · exact (KeepsRoutes.commit_same (Rated.apply_carrier _ _ _ _)).trans (tellReport_keepsRoutes _ _ _ _)
    · exact .refl s
  case start =>
    have running : s.KeepsRoutes { s with runState := .running } := .of_same rfl rfl rfl
    unfold startRule
    repeat' split
    · exact .refl s
    · exact running.trans (.foldl startDwell_keepsRoutes slotIds _)
    · exact .refl s
  case configureRequester =>
    unfold configureRequesterRule
    split
    · exact (s.disableQueue_keepsRoutes _ _).trans (.of_same rfl rfl rfl)
    · exact .refl s
  all_goals exact absurd leaves (by decide)

/-! ## The other rules -/

variable {s : State}

theorem releaseStoreRule_routeInv (inv : RouteInv s) : RouteInv (releaseStoreRule q b s).1 := by
  unfold releaseStoreRule
  repeat' split
  · exact inv.endHold
  · exact inv
  · exact inv

theorem stageProfileRule_routeInv (inv : RouteInv s) : RouteInv (stageProfileRule q b s).1 := by
  unfold stageProfileRule
  split
  · split
    · exact inv
    · dsimp only
      split
      · exact inv
      · split
        · exact (inv.stage _).promote _
        · exact inv.stage _
  · exact inv

theorem enterZoneRule_routeInv (inv : RouteInv s) : RouteInv (enterZoneRule q b s).1 := by
  unfold enterZoneRule
  split
  · exact inv.enterZone _
  · exact inv

theorem setCeilingRule_routeInv (inv : RouteInv s) : RouteInv (setCeilingRule q b s).1 := by
  have set (c : Permit) : RouteInv { s with coverage := { s.coverage with ceiling := c } } :=
    inv.of_keeps (.of_same rfl rfl rfl)
  unfold setCeilingRule
  repeat' split
  · exact inv
  · exact (set _).recompute
  · exact inv

theorem configureLinkRule_routeInv (inv : RouteInv s) : RouteInv (configureLinkRule q b s).1 := by
  unfold configureLinkRule
  split
  · exact inv.configureSlot _ rfl
  · exact inv

theorem probeResultRule_routeInv (inv : RouteInv s) : RouteInv (probeResultRule q b s).1 := by
  unfold probeResultRule
  split
  · split
    · exact inv
    · exact inv.probe _ _ _ _
  · split <;> exact inv

/-- OPEN_LINK takes no lost slot to CARRY (R147). -/
theorem openLinkRule_routeInv (inv : RouteInv s) : RouteInv (openLinkRule q b s).1 := by
  unfold openLinkRule
  dsimp only
  split
  · split
    · exact inv
    · split
      · exact inv
      · split
        · exact inv
        · rename_i kept
          have opened := inv.enter (eq_false_of_ne_true kept)
          split
          · exact (opened _ rfl).order (by decide)
          · exact opened _ rfl
  · exact inv

theorem closeLinkRule_routeInv (inv : RouteInv s) : RouteInv (closeLinkRule q b s).1 := by
  unfold closeLinkRule
  repeat' split
  · exact inv
  · exact inv.demote _
  · exact inv

theorem setRouteRule_routeInv (inv : RouteInv s) : RouteInv (setRouteRule q b s).1 := by
  have routed (t : RouteTable) : RouteInv { s with routes := t } := inv.of_keeps (.of_same rfl rfl rfl)
  unfold setRouteRule
  dsimp only
  repeat' split
  · exact (routed _).orderUnpark
  · exact inv
  · exact (routed _).orderUnpark
  · exact inv

/-- A SHIFT taken has its to-slot in CARRY (R169). -/
theorem shiftRule_routeInv (inv : RouteInv s) : RouteInv (shiftRule q b s).1 := by
  unfold shiftRule
  split
  · rename_i src dst
    split
    · exact inv
    · split
      · exact inv
      · rename_i carrying
        have recorded : RouteInv { s with migration := { s.migration with
            shift := some ⟨src, dst, 0⟩, draining := some src } } := by
          obtain ⟨rides, carry, walks, -⟩ := (routeInv_iff s).1 inv
          refine (routeInv_iff _).2 ⟨rides, carry, walks.setShift _ _, fun r present => ?_⟩
          obtain rfl := Option.some.inj present
          exact not_not.1 carrying
        repeat' split
        · exact inv
        · exact inv
        · exact recorded.order (by decide)
  · exact inv

theorem abortShiftRule_routeInv (inv : RouteInv s) : RouteInv (abortShiftRule q b s).1 := by
  unfold abortShiftRule
  repeat' split
  · exact inv
  · exact inv.dropShift
  · exact inv

/-- A part with no context, walk, order, lost slot or SHIFT: after reset and after CLEAR_VOYAGE. -/
theorem RouteInv.of_cleared {t : State} (store : t.store = Store.cleared)
    (migration : t.migration = Migration.initial) : RouteInv t := by
  have kept (i : LinkId) : t.isLost i = false := by
    rw [State.isLost, migration]
    exact Four.get_all _ _
  have unrouted (h : Handle) : (t.ctx h).carrier = none := by
    rw [State.ctx, store]
    rfl
  refine (routeInv_iff t).2 ⟨by simp [unrouted], fun i _ => kept i, ⟨by simp [kept], ?_, ?_⟩, ?_⟩ <;>
    simp [migration, Migration.initial]

theorem clearVoyageRule_routeInv (inv : RouteInv s) : RouteInv (clearVoyageRule q b s).1 := by
  obtain refused | cleared := clearVoyageRule_cases q b s
  · rwa [refused]
  · rw [cleared, s.clearVoyage_eq]
    exact .of_cleared rfl rfl

/-- Every rule keeps the routes on slots that carry or are lost. -/
theorem rule_routeInv (ruled : k.rule = some rule) (inv : RouteInv s) : RouteInv (rule q b s).1 := by
  cases leaves : k.reroutes with
  | false => exact inv.of_keeps (rule_keepsRoutes q b ruled leaves s)
  | true =>
    cases k
    case releaseStore => exact Option.some.inj ruled ▸ releaseStoreRule_routeInv q b inv
    case stageProfile => exact Option.some.inj ruled ▸ stageProfileRule_routeInv q b inv
    case enterZone => exact Option.some.inj ruled ▸ enterZoneRule_routeInv q b inv
    case setCeiling => exact Option.some.inj ruled ▸ setCeilingRule_routeInv q b inv
    case configureLink => exact Option.some.inj ruled ▸ configureLinkRule_routeInv q b inv
    case probeResult => exact Option.some.inj ruled ▸ probeResultRule_routeInv q b inv
    case openLink => exact Option.some.inj ruled ▸ openLinkRule_routeInv q b inv
    case closeLink => exact Option.some.inj ruled ▸ closeLinkRule_routeInv q b inv
    case setRoute => exact Option.some.inj ruled ▸ setRouteRule_routeInv q b inv
    case shift => exact Option.some.inj ruled ▸ shiftRule_routeInv q b inv
    case abortShift => exact Option.some.inj ruled ▸ abortShiftRule_routeInv q b inv
    case clearVoyage => exact Option.some.inj ruled ▸ clearVoyageRule_routeInv q b inv
    all_goals exact absurd leaves (by decide)

end Rules

end Sys2Proof.Machine
end

section
/-! The routes on slots that carry or are lost, under the sweep's visit, the walk steps and the ends of services and
events, and so under every step (O57). -/

namespace Sys2Proof.Machine

/-! ## The sweep's visit and the walk steps -/

namespace State

variable {s : State} (h : Handle)

/-- An expiry leaves no context routed that it retires (R12 to R16). -/
theorem visit_keepsRoutes (s : State) : s.KeepsRoutes (s.visit h) := by
  have retired {c : Context} (unrouted : c.carrier = none) (cause : Cause) :
      s.KeepsRoutes ((s.commit h c).raiseRetired h cause) :=
    (KeepsRoutes.commit_unrouted unrouted).trans (.of_same rfl rfl rfl)
  unfold State.visit
  dsimp only
  split
  · exact .refl s
  · split
    · exact .refl s
    · exact .refl s
    · exact retired rfl _
    · exact retired rfl _
    · exact retired rfl _
    · split
      · exact .commit_same rfl
      · exact .refl s

/-- What a FAILOVER step does at a handle: the context rides no lost slot behind it (R165). -/
theorem failoverWork_routes (s : State) : s.KeepsRoutes (s.failoverWork h) ∧ (s.failoverWork h).Clear h := by
  by_cases stays : ¬(s.ctx h).routed = true ∨ ∀ i, (s.ctx h).route = some i → s.isLost i = false
  · rw [failoverWork_stays stays]
    refine ⟨.refl s, fun i rides => ?_⟩
    obtain ⟨routed, route⟩ := Context.carrier_eq_some.1 rides
    exact stays.resolve_left (not_not.2 routed) i route
  · obtain ⟨routed, onLost⟩ := not_or.1 stays
    obtain ⟨lost, route, isLost⟩ : ∃ lost, (s.ctx h).route = some lost ∧ s.isLost lost = true := by
      simpa using onLost
    cases selected : s.selectRoute (s.ctx h).home with
    | some i =>
      rw [failoverWork_moves (not_not.1 routed) route isLost selected]
      have carries := selectRoute_carries selected
      have keeps : s.KeepsRoutes (s.commit h { s.ctx h with route := some i }) := .commit_bound rfl carries
      refine ⟨keeps, fun j rides => ?_⟩
      rw [s.ctx_commit, if_pos rfl] at rides
      obtain rfl : i = j := Option.some.inj (Context.carrier_eq_some.1 rides).2
      exact ((keeps.carries i).2 carries).2
    | none =>
      rw [failoverWork_parks (not_not.1 routed) route isLost selected]
      have parks : s.KeepsRoutes (s.commit h ((s.ctx h).park s.parkDeadline)) := .commit_unrouted rfl
      refine ⟨parks.trans (.of_migration rfl rfl rfl rfl rfl), fun j rides => ?_⟩
      have parked : ((s.commit h ((s.ctx h).park s.parkDeadline)).ctx h).carrier = none := by
        rw [s.ctx_commit, if_pos rfl]
        rfl
      exact absurd (parked.symm.trans rides) (by simp)

theorem unparkWork_keepsRoutes (s : State) : s.KeepsRoutes (s.unparkWork h) := by
  unfold State.unparkWork
  dsimp only
  split
  · split
    · rename_i i selected
      refine .commit_bound (i := i) ?_ (selectRoute_carries selected)
      unfold Context.restore
      split <;> rfl
    · exact .refl s
  · exact .refl s

/-- A SHIFT binds contexts to its to-slot, which carries (R169, R170). -/
theorem shiftWork_keepsRoutes (inv : RouteInv s) : s.KeepsRoutes (s.shiftWork h) := by
  cases present : s.migration.shift with
  | none =>
    have still : s.shiftWork h = s := by simp only [State.shiftWork, present]
    rw [still]
    exact .refl s
  | some x =>
    have carrying := inv.shift x present
    by_cases here : (s.ctx h).routed = true ∧ (s.ctx h).route = some x.src
    · rw [shiftWork_moves present here]
      have bound : s.KeepsRoutes (s.commit h { s.ctx h with route := some x.dst }) :=
        .commit_bound rfl ⟨carrying, inv.carry _ carrying⟩
      have kept := bound.shift.trans (congrArg (Option.map ShiftRecord.dst) present)
      exact bound.trans (.of_migration rfl rfl rfl rfl kept.symm)
    · rw [shiftWork_stays present here]
      exact .refl s

theorem darkWork_keepsRoutes (s : State) : s.KeepsRoutes (s.darkWork h) := by
  unfold State.darkWork
  split
  case h_1 | h_2 => exact .commit_same (Context.closeBearers_carrier _ _ _)
  all_goals exact .refl s

theorem work_keepsRoutes (inv : RouteInv s) (k : WalkKind) : s.KeepsRoutes (k.work h s) := by
  cases k
  · exact (s.failoverWork_routes h).1
  · exact shiftWork_keepsRoutes h inv
  · exact s.unparkWork_keepsRoutes h
  · exact s.darkWork_keepsRoutes h

end State

namespace RouteInv

variable {s : State}

/-- A walk's cursor advances: a FAILOVER walk has left the handle it passes clear (R163). -/
theorem advance (inv : RouteInv s) {w : Walk} (walk : s.migration.walk = some w)
    (here : w.kind = .failover → s.Clear w.cursor) :
    RouteInv { s with migration := { s.migration with walk := some { w with cursor := w.cursor + 1 } } } := by
  obtain ⟨going, passed, suspended⟩ := inv.walks
  refine inv.of_migration ⟨fun lost => ?_, fun x next failover h behind => ?_, suspended⟩ rfl fun _ => id
  · simpa [walk] using going lost
  · obtain rfl := Option.some.inj next
    obtain before | same := Walk.passed_cases (.inl behind)
    · exact passed w walk failover h before
    · exact same ▸ here failover

/-- A FAILOVER walk is completed: it has left every handle clear, and the lost set is emptied (R167). -/
theorem failoverComplete (inv : RouteInv s) (clear : ∀ h, s.Clear h) : RouteInv s.failoverComplete := by
  obtain ⟨rides, carry, walks, shift⟩ := (routeInv_iff s).1 inv
  have emptied (count : Nat) (events : EventSet) : RouteInv { s with
      migration := { s.migration with lost := ⟨false, false, false, false⟩, parkedCount := count }
      events := events } := by
    refine (routeInv_iff _).2 ⟨fun h i onto => .inl ?_, fun i _ => Four.get_all _ i, ⟨?_, ?_, walks.suspended⟩, shift⟩
    · exact (rides h i onto).resolve_right (by simp [clear h i onto])
    · rintro ⟨i, lost⟩
      exact absurd ((Four.get_all false i).symm.trans lost) (by decide)
    · exact fun _ _ _ _ _ i _ => Four.get_all _ i
  rw [s.failoverComplete_eq]
  refine (emptied _ _).nextWalk ?_
  rintro ⟨i, lost⟩
  exact absurd ((Four.get_all false i).symm.trans lost) (by decide)

/-- A walk of another kind than FAILOVER is completed: the next one is chosen (R129, R168, R170). -/
theorem complete (inv : RouteInv s) {w : Walk} (walk : s.migration.walk = some w) (other : w.kind ≠ .failover) :
    RouteInv (w.kind.complete s) := by
  have unled : s.migration.walk.map (·.kind) ≠ some .failover := by simpa [walk] using other
  cases kind : w.kind with
  | failover => exact absurd kind other
  | shift =>
    have ended : RouteInv { s with migration := { s.migration with shift := none, draining := none } } :=
      inv.of_migration (inv.walks.setShift none none) rfl (by simp)
    exact (ended.raise _ _).nextWalk_other unled
  | unpark => exact inv.nextWalk_other unled
  | dark => exact (inv.setMode .dark).nextWalk_other unled

/-- A walk step keeps the routes on slots that carry or are lost. -/
theorem walked (inv : RouteInv s) {w : Walk} (walk : s.migration.walk = some w) : RouteInv (s.walked w) := by
  have keeps := State.work_keepsRoutes w.cursor inv w.kind
  have worked := inv.of_keeps keeps
  have standing := keeps.walk.trans walk
  have here (kind : w.kind = .failover) : (w.kind.work w.cursor s).Clear w.cursor := by
    rw [kind]
    exact (s.failoverWork_routes w.cursor).2
  unfold State.walked
  dsimp only
  split
  · rename_i ended
    by_cases kind : w.kind = .failover
    · have clear (h : Handle) : (w.kind.work w.cursor s).Clear h := by
        obtain before | same := Walk.passed_cases (h := h) (.inr ended)
        · exact worked.walks.passed w standing kind h before
        · exact same ▸ here kind
      have completed := worked.failoverComplete clear
      rw [kind] at completed ⊢
      exact completed
    · exact worked.complete standing kind
  · exact worked.advance standing here

/-! ## The ends of services and events -/

theorem conclude (inv : RouteInv s) : RouteInv s.conclude :=
  inv.of_keeps (.of_same (by rw [s.conclude_frame]) (by rw [s.conclude_frame]) (by rw [s.conclude_frame]))

theorem concluded {t : State} (inv : RouteInv s) (keeps : s.KeepsRoutes t) : RouteInv t.conclude :=
  (inv.of_keeps keeps).conclude

theorem takeDueExpiry (inv : RouteInv s) : RouteInv s.takeDueExpiry := by
  unfold State.takeDueExpiry
  split
  · exact inv.revokeHold
  · exact inv

theorem finish (inv : RouteInv s) (r : RequesterId) (m : Message) (reply : Reply) : RouteInv (s.finish r m reply) := by
  have granted : s.KeepsRoutes s.grantAtOnce :=
    .of_same (by rw [s.grantAtOnce_frame]) (by rw [s.grantAtOnce_frame]) (by rw [s.grantAtOnce_frame])
  have released (t : State) : t.KeepsRoutes (t.releaseEngine r) := by
    unfold State.releaseEngine
    dsimp only
    split <;> exact .of_same rfl rfl rfl
  have sent (a : Answer) : s.KeepsRoutes (s.grantAtOnce.send a) := granted.trans (.of_same rfl rfl rfl)
  exact (inv.of_keeps ((sent _).trans (released _))).takeDueExpiry.conclude

theorem answerHold (inv : RouteInv s) : RouteInv s.answerHold := by
  unfold State.answerHold
  repeat' split
  · exact inv.finish _ _ _
  all_goals exact inv.conclude

theorem arrive (inv : RouteInv s) (r : RequesterId) (m : Message) : RouteInv (s.arrive r m) := by
  unfold State.arrive
  dsimp only
  repeat' split
  all_goals exact inv.of_keeps (.of_same rfl rfl rfl)

/-! ## Commands -/

/-- Every command keeps the routes on slots that carry or are lost. -/
theorem taken {t : State} {c : Instr} (inv : RouteInv s) (taken : s.Taken c t) : RouteInv t := by
  induction taken with
  | reset => exact .of_cleared rfl rfl
  | skipped => exact inv
  | answered reply => exact inv.finish _ _ _
  | ruled ruled => exact (rule_routeInv _ _ ruled inv).finish _ _ _
  | lineInactive _ ih => exact ih.of_keeps (.of_same rfl rfl rfl)
  | holdRequested => exact inv.concluded (.of_same rfl rfl rfl)
  | holdGranted => exact answerHold (inv.of_keeps (.of_same rfl rfl rfl))
  | holdExpiring => exact inv.of_keeps (.of_same rfl rfl rfl)
  | holdExpired => exact inv.revokeHold.conclude
  | clocked => exact inv.concluded (.of_same rfl rfl rfl)
  | visited => exact inv.concluded ((s.visit_keepsRoutes _).trans (.of_same rfl rfl rfl))
  | walked walk => exact (inv.walked walk).concluded (.of_same rfl rfl rfl)
  | arrived => exact (inv.arrive _ _).conclude
  | graceEnded =>
    refine inv.concluded ?_
    rw [s.expireGrace_frame]
    exact .of_same rfl rfl rfl
  | dwellEnded => exact inv.concluded (.setLink .rfl)
  | trackLost due =>
    refine inv.concluded (State.KeepsRoutes.trans (.setLink_away (by simp [due.1]) ?_) (.of_same rfl rfl rfl))
    simp [LinkSlot.toScan, LinkSlot.toTop]
  | carryLapsed => exact ((inv.demote _).raise _ _).conclude
  | quietEnded => exact inv.concluded (.of_same rfl rfl rfl)
  | released => exact inv.of_keeps (.of_same rfl rfl rfl)

/-- Time that passes moves timers alone. -/
theorem tick (inv : RouteInv s) : RouteInv s.tick :=
  inv.of_keeps (.of_links rfl rfl fun i => by
    have link : s.tick.link i = (s.link i).elapse Config.tickMicros := Four.get_map _ _ _
    rw [link]
    rfl)

end RouteInv

/-- Settles O57: an idle step moves timers alone, and every command keeps each routed context on a slot that carries or
is lost. -/
theorem routesStayCarried : Obligations.RoutesStayCarried := by
  intro s t inv ran
  unfold step at ran
  split at ran
  · obtain rfl := Host.Outcome.next.inj ran
    exact inv.tick
  · rename_i rest _
    have queued : RouteInv { s with pending := rest } := inv.of_keeps (.of_same rfl rfl rfl)
    exact queued.taken (exec_taken ran)

end Sys2Proof.Machine
end

section
/-! What arrives at the Request Port: a message is read from the octets it is written as, and answered or queued (O6,
O8). -/

namespace Sys2Proof.Machine

/-- The catalogue gives a code to one kind (R188). -/
theorem Kind.ofCode_eq_some {n : Nat} {k : Kind} : Kind.ofCode n = some k ↔ n = k.code := by
  refine ⟨fun h => ?_, fun h => h ▸ Kind.ofCode_code k⟩
  unfold Kind.ofCode at h
  split at h <;> cases h <;> rfl

/-- The four header octets name the requester and the length of the body, and the body ends where that length says
(R187). -/
theorem readMessage_writeMessage (r : RequesterId) {m : Message} (fits : m.body.length ≤ 255) (rest : List Byte) :
    readMessage (writeMessage r m ++ rest) = some (r, m, rest) := by
  have length : (BitVec.ofNat 8 m.body.length).toNat = m.body.length := by rw [BitVec.toNat_ofNat]; omega
  have requester : r.val % 16 = r.val := Nat.mod_eq_of_lt r.isLt
  simp [readMessage, writeMessage, length, requester]

/-- Settles O6: the header is read field by field, and the catalogue code by code. -/
theorem messageReadsBack : Obligations.MessageReadsBack :=
  ⟨fun r _ rest fits => readMessage_writeMessage r fits rest, fun _ _ => Kind.ofCode_eq_some⟩

/-- The arrival of a whole message. -/
theorem execMessageArrival_writeMessage (s : State) (r : RequesterId) {m : Message} (fits : m.body.length ≤ 255) :
    exec (.messageArrival (writeMessage r m)) s
      = .next (if s.receives then (s.arrive r m).conclude else s) := by
  have read : readMessage (writeMessage r m) = some (r, m, []) := by
    simpa using readMessage_writeMessage r fits []
  change execMessageArrival (writeMessage r m) s = _
  simp only [execMessageArrival, read]

section Arrive

variable {s : State} {r : RequesterId}

theorem State.arrive_disabled (closed : (s.entry r).level = 0) (m : Message) :
    s.arrive r m = s.send ⟨r, m.kind, m.tag, .disabled, []⟩ := if_pos closed

theorem State.arrive_busy (active : (s.entry r).level ≠ 0) (full : 4 ≤ (s.entry r).queue.length) (m : Message) :
    s.arrive r m = s.send ⟨r, m.kind, m.tag, .busy, []⟩ := (if_neg active).trans (if_pos full)

theorem State.arrive_queued (active : (s.entry r).level ≠ 0) (room : (s.entry r).queue.length < 4) (m : Message) :
    s.arrive r m = s.setEntry r { s.entry r with queue := (s.entry r).queue ++ [m] } :=
  (if_neg active).trans (if_neg (Nat.not_le.2 room))

end Arrive

/-- Settles O8: by whether the part receives messages, and then by the level and the queue of the requester. -/
theorem messageArrives : Obligations.MessageArrives := by
  intro s r m fits
  have arrival := execMessageArrival_writeMessage s r fits
  refine ⟨fun deaf => ?_, fun released settled => ?_⟩
  · have lost : s.receives = false := by
      obtain asserted | settling := deaf
      · simp [State.receives, asserted]
      · simp [State.receives, Nat.ne_of_gt settling]
    simpa [lost] using arrival
  · have receives : s.receives = true := by simp [State.receives, released, settled]
    rw [if_pos receives] at arrival
    exact ⟨fun closed => State.arrive_disabled closed m ▸ arrival,
      fun level full => State.arrive_busy level full m ▸ arrival,
      fun level room => State.arrive_queued level room m ▸ arrival⟩

end Sys2Proof.Machine
end

section
/-! The service of the Request Port: what is not due, what is refused before its rule, the head chosen and
CONFIGURE_REQUESTER (O9, O10, O13, O14). -/

namespace Sys2Proof.Machine

/-! ## Commands that are not due -/

section NotDue

variable {s : State} {k : Kind}

/-- The service of a kind that is not in service. -/
theorem State.serve_not_due (other : ∀ r m, s.inService = some (r, m) → m.kind.toNat ≠ k.code)
    (rule : Option Request → List Byte → State → State × Reply) : s.serve k rule = s := by
  obtain ⟨stays, -⟩ | ⟨r, m, served, kind, -⟩ := s.serve_cases k rule
  · exact stays
  · exact absurd (Kind.ofCode_eq_some.1 kind) (other r m served)

/-- HOLD_STORE alone has no rule, since its answer waits for its grant (R21). -/
theorem Kind.eq_holdStore (unruled : k.rule = none) : k = .holdStore := by
  cases k
  case holdStore => rfl
  all_goals cases unruled

/-- Only a taken ACK_EVENTS ends an attention service: one in service that passes its checks and whose body is read. -/
theorem State.endsService_true (ends : s.endsService = true) :
    ∃ r m, s.inService = some (r, m) ∧ m.kind.toNat = Kind.ackEvents.code ∧ s.portRefusal r m = none
      ∧ Kind.ackEvents.read m.body ≠ none := by
  unfold State.endsService at ends
  split at ends
  · cases ends
  · rename_i r m served
    obtain ⟨⟨kind, passes⟩, read⟩ :
        (Kind.ofCode m.kind.toNat = some .ackEvents ∧ s.portRefusal r m = none) ∧ _ := by simpa using ends
    refine ⟨r, m, served, Kind.ofCode_eq_some.1 kind, passes, fun unread => ?_⟩
    simp [unread] at read

/-- A request's command is the service of its rule, where it does not end an attention service. -/
theorem exec_command_of_not_ends {rule : Option Request → List Byte → State → State × Reply}
    (ruled : k.rule = some rule) (stays : k = .ackEvents → s.endsService = false) :
    exec k.command s = .next (s.serve k rule) := by
  cases k
  case holdStore => cases ruled
  case ackEvents =>
    obtain rfl : ackEventsRule = rule := Option.some.inj ruled
    change Host.Outcome.next (if s.endsService && !s.expiryWaits then _ else _) = _
    simp [stays rfl]
  all_goals exact Option.some.inj ruled ▸ rfl

/-- The command of a request kind that is not in service (notes/assumptions/2.md). -/
theorem exec_command_not_due (other : ∀ r m, s.inService = some (r, m) → m.kind.toNat ≠ k.code) :
    exec k.command s = .next s := by
  cases ruled : k.rule with
  | some rule =>
    refine (exec_command_of_not_ends ruled ?_).trans (congrArg _ (State.serve_not_due other rule))
    rintro rfl
    refine Bool.eq_false_iff.2 fun ends => ?_
    obtain ⟨r, m, served, kind, -⟩ := State.endsService_true ends
    exact other r m served kind
  | none =>
    obtain rfl := Kind.eq_holdStore ruled
    change execHoldStore s = _
    unfold execHoldStore
    cases served : s.inService with
    | none => rfl
    | some head => simp [Kind.ofCode_eq_some, other head.1 head.2 served]

/-- UNKNOWN_REQUEST while no request of an unknown kind is in service. -/
theorem execUnknownRequest_not_due
    (known : ∀ r m, s.inService = some (r, m) → ∃ k : Kind, m.kind.toNat = k.code) :
    exec .unknownRequest s = .next s := by
  change execUnknownRequest s = _
  unfold execUnknownRequest
  cases served : s.inService with
  | none => rfl
  | some head =>
    obtain ⟨k, kind⟩ := known head.1 head.2 served
    simp [kind]

/-- A walk step without its grant. -/
theorem exec_walk_not_due {k : WalkKind} (ungranted : s.arbiter ≠ .granted (.walk k)) :
    exec k.command s = .next s := by
  obtain stays | ⟨w, -, -, grant, -⟩ := s.walkStep_cases k
  · rw [exec_walk, stays]
  · exact absurd grant ungranted

end NotDue

/-- A command taken only where it is due leaves a part in which it is not as it stands. -/
theorem next_of_not_due {s t : State} {due : Prop} [Decidable due] (not_due : ¬due) :
    (Host.Outcome.next (if due then t else s) : Outcome) = .next s := by
  rw [if_neg not_due]

/-- Settles O10: each command by what makes it due. -/
theorem commandNotDueWaits : Obligations.CommandNotDueWaits := by
  intro s
  refine ⟨fun k => exec_command_not_due, execUnknownRequest_not_due, fun h => next_of_not_due fun due => h due.1,
    fun h => next_of_not_due fun due => ?_, fun h => next_of_not_due fun due => ?_,
    fun h => next_of_not_due fun due => h due.1, fun h => next_of_not_due fun due => ?_,
    fun i h => next_of_not_due fun due => ?_, fun i h => next_of_not_due fun due => h due.2,
    fun i h => next_of_not_due fun due => h due.2, exec_walk_not_due (k := .failover),
    exec_walk_not_due (k := .unpark), exec_walk_not_due (k := .shift), exec_walk_not_due (k := .dark),
    fun h => next_of_not_due fun due => ?_, fun h => next_of_not_due fun due => ?_⟩
  case refine_1 =>
    obtain ⟨held, running⟩ := due
    obtain free | stopped := h
    · exact free held
    · simp [stopped] at running
  case refine_2 =>
    obtain ⟨running, below⟩ := due
    obtain configuring | top := h
    · simp [configuring] at running
    · exact absurd below (Nat.not_lt.2 top)
  case refine_3 => simp [h] at due
  case refine_4 => simp [h] at due
  case refine_5 => simp [h] at due
  case refine_6 => simp [h] at due

/-! ## Refusals before a kind's rule (R182) -/

section Refused

variable {s : State} {r : RequesterId} {m : Message} {k : Kind}

/-- Check 2 of R182: the class may not send the kind. -/
theorem State.portRefusal_notPermitted (kind : m.kind.toNat = k.code) (barred : (s.entry r).cls.permits k = false) :
    s.portRefusal r m = some .notPermitted := by
  simp [State.portRefusal, kind, barred]

/-- Check 3 of R182: the kind is not served before START. -/
theorem State.portRefusal_notStarted (kind : m.kind.toNat = k.code) (permitted : (s.entry r).cls.permits k = true)
    (configuring : s.runState = .configuring) (later : k.inConfiguring = false) :
    s.portRefusal r m = some .notStarted := by
  simp [State.portRefusal, kind, permitted, configuring, later]

/-- A request of a known kind that its class may send passes once started, or where it is served before START. -/
theorem State.portRefusal_none (kind : m.kind.toNat = k.code) (permitted : (s.entry r).cls.permits k = true)
    (started : s.runState = .running ∨ k.inConfiguring = true) : s.portRefusal r m = none := by
  obtain running | early := started
  · simp [State.portRefusal, kind, permitted, running]
  · simp [State.portRefusal, kind, permitted, early]

/-- A request that a check of R182 refuses is answered without its rule. -/
theorem exec_command_refused (served : s.inService = some (r, m)) (kind : m.kind.toNat = k.code) {status : Status}
    (refused : s.portRefusal r m = some status) : exec k.command s = .next (s.finish r m ⟨status, []⟩) := by
  cases ruled : k.rule with
  | some rule =>
    refine (exec_command_of_not_ends ruled fun _ => Bool.eq_false_iff.2 fun ends => ?_).trans ?_
    · obtain ⟨r', m', served', -, passes, -⟩ := State.endsService_true ends
      obtain ⟨rfl, rfl⟩ := Prod.mk.inj (Option.some.inj (served.symm.trans served'))
      simp [refused] at passes
    · simp [State.serve, served, kind, refused, Reply.refusal]
  | none =>
    obtain rfl := Kind.eq_holdStore ruled
    change execHoldStore s = _
    simp [execHoldStore, served, kind, refused, Reply.refusal]

/-- Every rule but PROBE_RESULT's refuses a body that is not read with BAD_FIELD, and changes nothing. -/
theorem rule_unread {rule : Option Request → List Byte → State → State × Reply} (ruled : k.rule = some rule)
    (other : k ≠ .probeResult) (body : List Byte) (s : State) : rule none body s = (s, ⟨.badField, []⟩) := by
  cases k
  case probeResult => exact absurd rfl other
  case holdStore => cases ruled
  all_goals obtain rfl := Option.some.inj ruled; rfl

/-- A request that passes checks 1 to 3 of R182 and whose body is not read. -/
theorem exec_command_unread {rule : Option Request → List Byte → State → State × Reply}
    (ruled : k.rule = some rule) (served : s.inService = some (r, m)) (kind : m.kind.toNat = k.code)
    (passes : s.portRefusal r m = none) (unread : k.read m.body = none) :
    exec k.command s = .next ((rule none m.body s).1.finish r m (rule none m.body s).2) := by
  refine (exec_command_of_not_ends ruled ?_).trans ?_
  · rintro rfl
    refine Bool.eq_false_iff.2 fun ends => ?_
    obtain ⟨r', m', served', -, -, read⟩ := State.endsService_true ends
    obtain ⟨rfl, rfl⟩ := Prod.mk.inj (Option.some.inj (served.symm.trans served'))
    exact read unread
  · simp [State.serve, served, kind, passes, unread]

/-- A request but a PROBE_RESULT whose body is not read. -/
theorem exec_command_badField (other : k ≠ .probeResult) (served : s.inService = some (r, m))
    (kind : m.kind.toNat = k.code) (passes : s.portRefusal r m = none) (unread : k.read m.body = none) :
    exec k.command s = .next (s.finish r m ⟨.badField, []⟩) := by
  cases ruled : k.rule with
  | some rule =>
    rw [exec_command_unread ruled served kind passes unread, rule_unread ruled other]
  | none =>
    obtain rfl := Kind.eq_holdStore ruled
    change execHoldStore s = _
    simp [execHoldStore, served, kind, passes, unread, Reply.refusal]

end Refused

/-- Settles O9: the checks of R182 in their order, and then the body. -/
theorem refusedBeforeItsRule : Obligations.RefusedBeforeItsRule := by
  intro s r m served
  refine ⟨fun unknown => ?_, fun k kind => ⟨fun barred => ?_, fun permitted configuring later => ?_,
    fun permitted started unread => ⟨fun other => ?_, ?_⟩⟩⟩
  · have absent : Kind.ofCode m.kind.toNat = none :=
      Option.eq_none_iff_forall_ne_some.2 fun k found => unknown k (Kind.ofCode_eq_some.1 found)
    change execUnknownRequest s = _
    simp only [execUnknownRequest, served, absent, Reply.refusal]
  · exact exec_command_refused served kind (State.portRefusal_notPermitted kind barred)
  · exact exec_command_refused served kind (State.portRefusal_notStarted kind permitted configuring later)
  · exact exec_command_badField other served kind (State.portRefusal_none kind permitted started) unread
  · rintro rfl
    have refused := exec_command_unread (k := .probeResult) rfl served kind
      (State.portRefusal_none kind permitted started) unread
    refine ⟨fun i named => ?_, fun unnamed => ?_⟩
    · simp only [probeResultRule, named] at refused
      exact refused
    · simp only [probeResultRule, unnamed] at refused
      exact refused

/-! ## The head chosen (R180) -/

/-- What is picked from a rising list by a level: the member of the highest level, the first of those that have it. -/
theorem pick_highest {level : RequesterId → Nat} {l : List RequesterId} (rising : l.Pairwise (· < ·))
    {r : RequesterId} (picked : pick (fun c b => level b < level c) l = some r) :
    ∀ c ∈ l, c ≠ r → level c < level r ∨ (level c = level r ∧ r < c) := by
  induction l using List.reverseRecOn generalizing r with
  | nil => simp
  | append_singleton l a ih =>
    obtain ⟨before, -, behind⟩ := List.pairwise_append.1 rising
    replace behind : ∀ c ∈ l, c < a := by simpa using behind
    rw [pick_concat] at picked
    cases found : pick (fun c b => level b < level c) l with
    | none =>
      obtain rfl : l = [] := pick_none.1 found
      simp_all
    | some d =>
      have first := ih before found
      have earlier := behind d (pick_mem found)
      simp only [found] at picked
      intro c hc other
      split at picked <;> obtain rfl := Option.some.inj picked
      · obtain hc : c ∈ l := by simpa [other] using hc
        by_cases same : c = d
        · subst same; exact .inl (by omega)
        · exact .inl (by obtain lower | ⟨equal, -⟩ := first c hc same <;> omega)
      · obtain hc | rfl : c ∈ l ∨ c = a := by simpa using hc
        · exact first c hc other
        · exact (Nat.lt_or_eq_of_le (by omega)).imp_right fun equal => ⟨equal, earlier⟩

theorem requesterIds_rising : requesterIds.Pairwise (· < ·) := by decide

theorem mem_requesterIds (r : RequesterId) : r ∈ requesterIds := by revert r; decide

/-- What a chosen head is to every other eligible head. -/
theorem State.chooseHead_first {s : State} {r : RequesterId} (chosen : s.chooseHead = some r) :
    s.headEligible r = true ∧ ∀ r', r' ≠ r → s.headEligible r' = true →
      (s.entry r').level < (s.entry r).level ∨ ((s.entry r').level = (s.entry r).level ∧ r < r') := by
  rw [chooseHead_eq] at chosen
  have first := pick_highest (level := fun r => (s.entry r).level) (requesterIds_rising.filter _) chosen
  exact ⟨(List.mem_filter.1 (pick_mem chosen)).2,
    fun r' other eligible => first r' (List.mem_filter.2 ⟨mem_requesterIds r', eligible⟩) other⟩

/-- A request touches a context and passes checks 1 to 3 of R182. -/
theorem State.forStore_iff {s : State} {r : RequesterId} {m : Message} : s.forStore r m = true ↔
    s.portRefusal r m = none ∧ ∃ k : Kind, m.kind.toNat = k.code ∧ k.touchesContext = true := by
  unfold State.forStore
  cases known : Kind.ofCode m.kind.toNat with
  | none =>
    have unknown : ∀ k : Kind, m.kind.toNat ≠ k.code := fun k kind => by
      simp [Kind.ofCode_eq_some.2 kind] at known
    simp [unknown]
  | some k =>
    have code : m.kind.toNat = k.code := Kind.ofCode_eq_some.1 known
    have one : ∀ k' : Kind, m.kind.toNat = k'.code ↔ k' = k := fun k' => by
      rw [← Kind.ofCode_eq_some, known, Option.some.injEq, eq_comm]
    simp [one]

/-- Settles O13: the choice of a head by level and number, and what holds a head back. -/
theorem headChosen : Obligations.HeadChosen := by
  intro s r
  refine ⟨⟨State.chooseHead_first, fun ⟨eligible, first⟩ => ?_⟩, ?_⟩
  · cases chosen : s.chooseHead with
    | none => simp [State.chooseHead_none.1 chosen r] at eligible
    | some d =>
      obtain ⟨eligible', first'⟩ := State.chooseHead_first chosen
      by_contra other
      have ne : d ≠ r := fun same => other (congrArg some same)
      obtain lower | ⟨equal, before⟩ := first d ne eligible'
      · obtain higher | ⟨equal, -⟩ := first' r ne.symm eligible <;> omega
      · obtain higher | ⟨-, behind⟩ := first' r ne.symm eligible
        · omega
        · exact lt_asymm before behind
  · unfold State.headEligible
    cases queue : (s.entry r).queue with
    | nil => simp
    | cons m tail => simp [State.isHeld, ← State.forStore_iff]; tauto

/-! ## CONFIGURE_REQUESTER (R176) -/

/-- The answers to the requests that level 0 drops, oldest first. -/
theorem State.disableQueue_eq (s : State) (n : RequesterId) (queue : List Message) :
    s.disableQueue n queue = { s with port := { s.port with
      sent := s.port.sent ++ queue.map (fun d : Message => (⟨n, d.kind, d.tag, .disabled, []⟩ : Answer)) } } := by
  induction queue generalizing s with
  | nil => simp [State.disableQueue]
  | cons m rest ih =>
    change (s.send _).disableQueue n rest = _
    rw [ih]
    simp [State.send]

/-- Settles O14: the rule's result is the end of the service. -/
theorem configureRequesterTaken : Obligations.ConfigureRequesterTaken := by
  rintro s r m n cls level ⟨served, passes, kind, read⟩ applied dropped u
  refine congrArg Host.Outcome.next ((State.serve_eq served passes kind read).trans ?_)
  simp only [configureRequesterRule, State.disableQueue_eq]
  rfl

end Sys2Proof.Machine
end

section
/-! The end of a service (O11): the answer sent, the request out of its queue, a due hold expiry, and the arbiter's
grant within the service. -/

namespace Sys2Proof.Machine

/-- What stays of a grant at the end of a service: a grant to the request has ended (R20). -/
def Arbiter.released (a : Arbiter) : Arbiter := if a = .granted .request then .idle else a

theorem Arbiter.released_granted (c : Contender) :
    (Arbiter.granted c).released = if c = .request then .idle else .granted c := by
  unfold Arbiter.released
  simp only [Arbiter.granted.injEq]

namespace State

/-! ## The parts of the end -/

/-- The request leaves its queue, the engine is IDLE, and a grant to the request ends (R20, R177). -/
theorem releaseEngine_eq (s : State) (r : RequesterId) : s.releaseEngine r = { s with
    arbiter := s.arbiter.released
    port := { (s.setEntry r { s.entry r with queue := (s.entry r).queue.tail }).port with engine := .idle } } := by
  unfold State.releaseEngine Arbiter.released
  dsimp only
  split <;> rfl

/-- A hold timer expiry that waited for the answer (R25). -/
abbrev ExpiryDue (s : State) : Prop := s.hold.expiryDue = true ∧ s.hold.state = .held

/-- A due hold timer expiry ends the hold with HOLD_REVOKED, and the Migration Engine chooses a walk where none is in
progress (R25, R26). -/
theorem takeDueExpiry_eq (s : State) : s.takeDueExpiry = { s with
    hold := if s.ExpiryDue then ⟨.notHeld, none, false⟩ else s.hold
    migration := if s.ExpiryDue then
        (match s.migration.walk with | none => s.migration.next false | some _ => s.migration)
      else s.migration
    events := { s.events with
      pendingSet := if s.ExpiryDue then s.events.pendingSet ||| 4096#17 else s.events.pendingSet } } := by
  unfold State.takeDueExpiry
  split
  · rw [State.revokeHold, State.endHold_eq]
    rfl
  · rfl

/-- The arbiter within a service: HELD it stays, and otherwise it makes or keeps its grant (R18). -/
theorem grantAtOnce_arbiter (s : State) :
    s.grantAtOnce.arbiter = if s.arbiter = .held then .held else s.regrant.arbiter := by
  have arbitrated : s.arbitrate.arbiter = s.regrant.arbiter := by
    unfold State.arbitrate
    rw [enterService_eq]
    rfl
  unfold State.grantAtOnce
  cases arbiter : s.arbiter <;> simp [arbiter, arbitrated]

/-- The end of a service is the end of an event at a state given whole, but for the grant made within the service. -/
theorem finish_eq (s : State) (r : RequesterId) (m : Message) (reply : Reply) : s.finish r m reply =
    conclude { s with
      arbiter := s.grantAtOnce.arbiter.released
      hold := if s.ExpiryDue then ⟨.notHeld, none, false⟩ else s.hold
      migration := if s.ExpiryDue then
          (match s.migration.walk with | none => s.migration.next false | some _ => s.migration)
        else s.migration
      port := { (s.setEntry r { s.entry r with queue := (s.entry r).queue.tail }).port with
        engine := .idle, sent := s.port.sent ++ [⟨r, m.kind, m.tag, reply.status, reply.body⟩] }
      events := { s.events with
        pendingSet := if s.ExpiryDue then s.events.pendingSet ||| 4096#17 else s.events.pendingSet } } := by
  unfold State.finish
  dsimp only
  rw [takeDueExpiry_eq, releaseEngine_eq, grantAtOnce_frame]
  rfl

/-! ## The grant within a service -/

theorem grantAtOnce_held {s : State} (held : s.arbiter = .held) : s.grantAtOnce.arbiter = .held := by
  rw [grantAtOnce_arbiter, if_pos held]

/-- A grant stands while its contender contends. -/
theorem grantAtOnce_stands {s : State} {c : Contender} (grant : s.arbiter = .granted c)
    (contends : s.contends c = true) : s.grantAtOnce.arbiter = .granted c := by
  rw [grantAtOnce_arbiter, if_neg (by simp [grant])]
  obtain ⟨-, -, -, stays⟩ | ⟨held, -⟩ | ⟨lapsed, -⟩ := s.regrant_cases
  · rw [stays, grant]
  · simp [grant] at held
  · simp [lapsed c grant] at contends

/-- Where no grant stands the arbiter makes one anew. -/
theorem grantAtOnce_anew {s : State} (free : s.arbiter ≠ .held)
    (lapsed : ∀ c, s.arbiter = .granted c → s.contends c = false) : s.grantAtOnce.arbiter = s.award.arbiter := by
  rw [grantAtOnce_arbiter, if_neg free]
  obtain ⟨c, grant, contends, -⟩ | ⟨held, -⟩ | ⟨-, anew⟩ := s.regrant_cases
  · simp [lapsed c grant] at contends
  · exact absurd held free
  · rw [anew]

theorem award_held {s : State} (held : s.hold.state = .held) : s.award.arbiter = .held := by
  simp [State.award, State.isHeld, held]

theorem award_idle {s : State} (free : s.hold.state ≠ .held) (silent : ∀ c, s.contends c = false) :
    s.award.arbiter = .idle := by
  obtain ⟨held, -⟩ | ⟨-, idle, -⟩ | ⟨-, c, -, contends, -⟩ := s.award_cases
  · exact absurd (of_decide_eq_true held) free
  · exact idle
  · simp [silent c] at contends

/-- The contender of the highest rank is granted. -/
theorem award_granted {s : State} {c : Contender} (free : s.hold.state ≠ .held) (contends : s.contends c = true)
    (first : ∀ c', s.contends c' = true → c' ≠ c → s.rank c < s.rank c') : s.award.arbiter = .granted c := by
  obtain ⟨held, -⟩ | ⟨-, -, silent⟩ | ⟨-, d, grant, contends', first'⟩ := s.award_cases
  · exact absurd (of_decide_eq_true held) free
  · simp [silent c] at contends
  · obtain rfl | other := eq_or_ne d c
    · exact grant
    · exact absurd (first d contends' other) (first' c contends other.symm).asymm

end State

/-- Settles O11: the state that the event ends at, and the arbiter in it by what it was before. -/
theorem endOfService : Obligations.EndOfService := by
  intro s r m reply u due ended
  have ended_eq (c : Contender) : (Arbiter.granted c).released = ended c := Arbiter.released_granted c
  refine ⟨by simp [u, State.entry_setEntry], fun r' other => by simp [u, State.entry_setEntry, other],
    s.grantAtOnce.arbiter.released, s.finish_eq r m reply, fun held => ?_, fun c grant contends => ?_,
    fun free lapsed => ?_⟩
  · rw [State.grantAtOnce_held held]; rfl
  · rw [State.grantAtOnce_stands grant contends, ended_eq]
  · rw [State.grantAtOnce_anew free lapsed]
    refine ⟨fun held => ?_, fun unheld => ⟨fun silent => ?_, fun c contends first => ?_⟩⟩
    · rw [State.award_held held]; rfl
    · rw [State.award_idle unheld silent]; rfl
    · rw [State.award_granted unheld contends first, ended_eq]

end Sys2Proof.Machine
end

section
/-! SUPPORT. Numbers, fields and entries in octets, and the codes of named values: what is read is what was written
(R186). -/

namespace Sys2Proof.Machine

/-! ## Numbers in octets -/

theorem number_cons (b : Byte) (rest : List Byte) : number (b :: rest) = b.toNat * 256 ^ rest.length + number rest := by
  have step (acc : Nat) (l : List Byte) :
      l.foldl (fun a c => a * 256 + c.toNat) acc = acc * 256 ^ l.length + number l := by
    induction l generalizing acc with
    | nil => simp [number]
    | cons c l ih =>
      have behind : number (c :: l) = c.toNat * 256 ^ l.length + number l := by
        simpa [number] using ih (0 * 256 + c.toNat)
      rw [List.foldl_cons, ih, behind, List.length_cons]
      ring
  simpa [number] using step (0 * 256 + b.toNat) rest

/-- Octets are those of the number they carry. -/
theorem octets_number {n : Nat} {bytes : List Byte} (length : bytes.length = n) : octets n (number bytes) = bytes := by
  have above (a : Nat) : octets bytes.length (a * 256 ^ bytes.length + number bytes) = bytes := by
    clear length
    induction bytes generalizing a with
    | nil => rfl
    | cons b rest ih =>
      have shift : a * 256 ^ (b :: rest).length + number (b :: rest)
          = (a * 256 + b.toNat) * 256 ^ rest.length + number rest := by
        rw [number_cons, List.length_cons]
        ring
      have head : ((a * 256 + b.toNat) * 256 ^ rest.length + number rest) / 256 ^ rest.length = a * 256 + b.toNat := by
        rw [Nat.mul_comm, Nat.mul_add_div (by positivity), Nat.div_eq_of_lt (number_lt rest), Nat.add_zero]
      have octet : BitVec.ofNat 8 (a * 256 + b.toNat) = b := by
        apply BitVec.eq_of_toNat_eq
        rw [BitVec.toNat_ofNat]
        omega
      rw [shift, List.length_cons, octets, head, octet, ih]
  simpa [length] using above 0

/-- A number in octets is read modulo what they hold. -/
@[simp] theorem number_octets_mod (n v : Nat) : number (octets n v) = v % 256 ^ n := by
  rw [number, foldl_octets, Nat.zero_mul, Nat.zero_add]

/-! ## Fields and entries -/

/-- A body is cut into fields exactly where they fit their widths and it is their layout. -/
theorem splitFields_eq_some {widths : List Nat} {bytes : List Byte} {fields : List Nat} :
    splitFields widths bytes = some fields ↔
      List.Forall₂ (fun w v => v < 256 ^ w) widths fields ∧ bytes = layFields (widths.zip fields) := by
  refine ⟨fun cut => ⟨splitFields_lt cut, ?_⟩, fun ⟨fit, laid⟩ => ?_⟩
  · induction widths generalizing bytes fields with
    | nil =>
      cases bytes with
      | nil => cases cut; rfl
      | cons => cases cut
    | cons w ws ih =>
      unfold splitFields at cut
      split at cut
      · cases cut
      · rename_i long
        obtain ⟨rest, behind, rfl⟩ := Option.map_eq_some_iff.1 cut
        rw [List.zip_cons_cons, layFields, octets_number (by rw [List.length_take]; omega), ← ih behind,
          List.take_append_drop]
  · have bounds : ∀ f ∈ widths.zip fields, f.2 < 256 ^ f.1 := fun f hf =>
      (List.forall₂_iff_zip.1 fit).2 hf
    have cut := splitFields_layFields _ bounds
    rwa [List.map_fst_zip fit.length_eq.le, List.map_snd_zip fit.length_eq.ge, ← laid] at cut

/-- Cutting off the first field of a layout. -/
@[simp] theorem splitFields_octets_append (w v : Nat) (ws : List Nat) (rest : List Byte) :
    splitFields (w :: ws) (octets w v ++ rest) = (splitFields ws rest).map (v % 256 ^ w :: ·) := by
  rw [splitFields, if_neg (by simp), List.drop_left' (octets_length w v), List.take_left' (octets_length w v),
    number_octets_mod]

/-- A layout of one field. -/
@[simp] theorem splitFields_octets (w v : Nat) : splitFields [w] (octets w v) = some [v % 256 ^ w] := by
  simpa [splitFields] using splitFields_octets_append w v [] []

/-- An entry is cut off, and the others behind it. -/
theorem splitEntries_cons {w fuel : Nat} {bytes : List Byte} {entries : List Nat} (more : bytes ≠ []) :
    splitEntries w (fuel + 1) bytes = some entries ↔ w ≤ bytes.length ∧
      ∃ rest, splitEntries w fuel (bytes.drop w) = some rest ∧ number (bytes.take w) :: rest = entries := by
  obtain ⟨b, bs, rfl⟩ := List.exists_cons_of_ne_nil more
  rw [splitEntries]
  split
  · rename_i short
    exact iff_of_false (by simp) fun ⟨long, _⟩ => absurd short (Nat.not_lt.2 long)
  · rename_i long
    rw [and_iff_right (Nat.not_lt.1 long), Option.map_eq_some_iff]

/-- The rest of a body is cut into entries exactly where they fit their width and it is their layout. -/
theorem splitEntries_eq_some {w : Nat} (wide : 0 < w) {fuel : Nat} {bytes : List Byte} {entries : List Nat}
    (enough : bytes.length ≤ fuel) : splitEntries w fuel bytes = some entries ↔
      (∀ v ∈ entries, v < 256 ^ w) ∧ bytes = entries.flatMap (octets w) := by
  have filled (v : Nat) : octets w v ≠ [] := fun h => by simpa [h, wide.ne] using octets_length w v
  have empty (fuel : Nat) (entries : List Nat) : splitEntries w fuel [] = some entries ↔
      (∀ v ∈ entries, v < 256 ^ w) ∧ [] = entries.flatMap (octets w) := by
    have none_left : splitEntries w fuel [] = some [] := by cases fuel <;> rfl
    cases entries <;> simp [none_left, filled]
  induction fuel generalizing bytes entries with
  | zero => exact List.length_eq_zero_iff.1 (Nat.le_zero.1 enough) ▸ empty 0 entries
  | succ fuel ih =>
    obtain rfl | more := eq_or_ne bytes []
    · exact empty _ entries
    have long : 0 < bytes.length := List.length_pos_of_ne_nil more
    rw [splitEntries_cons more]
    constructor
    · rintro ⟨long, rest, behind, rfl⟩
      obtain ⟨fit, laid⟩ := (ih (by rw [List.length_drop]; omega)).1 behind
      have taken : (bytes.take w).length = w := by rw [List.length_take]; omega
      refine ⟨List.forall_mem_cons.2 ⟨?_, fit⟩, ?_⟩
      · simpa only [taken] using number_lt (bytes.take w)
      · rw [List.flatMap_cons, ← laid, octets_number taken, List.take_append_drop]
    · rintro ⟨fit, rfl⟩
      cases entries with
      | nil => exact absurd rfl more
      | cons v rest =>
        obtain ⟨first, others⟩ := List.forall_mem_cons.1 fit
        rw [List.flatMap_cons, List.length_append, octets_length] at enough
        rw [List.flatMap_cons, List.drop_left' (octets_length w v), List.take_left' (octets_length w v),
          number_octets first]
        exact ⟨by simp, rest, (ih (by omega)).2 ⟨others, rfl⟩, rfl⟩

/-! ## Values within ranges -/

@[simp] theorem readBelow_eq_some {n v : Nat} {i : Fin n} : readBelow n v = some i ↔ v = i.val := by
  unfold readBelow
  split
  · rw [Option.some.injEq, Fin.ext_iff]
  · rename_i above
    exact iff_of_false (by simp) fun same => above (same ▸ i.isLt)

@[simp] theorem readUpTo_eq_some {max v x : Nat} : readUpTo max v = some x ↔ v ≤ max ∧ v = x := by
  simp [readUpTo]

/-- Eight octets carry an identity, which is not zero (R6, R29). -/
theorem readIdentity_eq_some {v : Nat} {i : Identity} (fits : v < 256 ^ 8) :
    readIdentity v = some i ↔ i ≠ 0 ∧ v = i.toNat := by
  have carried : BitVec.ofNat 64 v = i ↔ v = i.toNat := by
    rw [← BitVec.toNat_inj, BitVec.toNat_ofNat, Nat.mod_eq_of_lt (by omega)]
  have zero : i = 0 ↔ i.toNat = 0 := by rw [← BitVec.toNat_inj]; rfl
  unfold readIdentity
  split <;> simp only [reduceCtorEq, Option.some.injEq, carried, ne_eq, zero, false_iff] <;> omega

/-- A set of event numbers carries no number above 16 (R186). -/
@[simp] theorem readEventSet_eq_some {v : Nat} {x : BitVec 17} : readEventSet v = some x ↔ v = x.toNat := by
  have bound := x.isLt
  unfold readEventSet
  split
  · rename_i fits
    rw [Option.some.injEq, ← BitVec.toNat_inj, BitVec.toNat_ofNat, Nat.mod_eq_of_lt fits]
  · exact iff_of_false (by simp) (by omega)

@[simp] theorem readBelow_val {n : Nat} (i : Fin n) : readBelow n i.val = some i := readBelow_eq_some.2 rfl

theorem readUpTo_of_le {max v : Nat} (within : v ≤ max) : readUpTo max v = some v :=
  readUpTo_eq_some.2 ⟨within, rfl⟩

theorem readIdentity_toNat {i : Identity} (given : i ≠ 0) : readIdentity i.toNat = some i :=
  (readIdentity_eq_some i.isLt).2 ⟨given, rfl⟩

@[simp] theorem readEventSet_toNat (x : BitVec 17) : readEventSet x.toNat = some x := readEventSet_eq_some.2 rfl

/-! ## Codes of named values -/

@[simp] theorem readFlag_eq_some {n : Nat} {b : Bool} : readFlag n = some b ↔ n = flagOctet b := by
  unfold readFlag
  cases b <;> split <;> simp_all [flagOctet]

@[simp] theorem readOutcome_eq_some {n : Nat} {b : Bool} : readOutcome n = some b ↔ n = flagOctet (!b) := by
  unfold readOutcome
  cases b <;> split <;> simp_all [flagOctet]

@[simp] theorem BearerKind.ofCode_eq_some {n : Nat} {k : BearerKind} : ofCode n = some k ↔ n = k.code := by
  unfold ofCode
  cases k <;> split <;> simp_all [code]

@[simp] theorem Policy.ofCode_eq_some {n : Nat} {k : Policy} : ofCode n = some k ↔ n = k.code := by
  unfold ofCode
  cases k <;> split <;> simp_all [code]

@[simp] theorem AllowanceKind.ofCode_eq_some {n : Nat} {k : AllowanceKind} : ofCode n = some k ↔ n = k.code := by
  unfold ofCode
  cases k <;> split <;> simp_all [code]

@[simp] theorem Column.ofCode_eq_some {n : Nat} {c : Column} : ofCode n = some c ↔ n = c.code := by
  unfold ofCode
  cases c <;> split <;> simp_all [code]

@[simp] theorem LinkKind.ofCode_eq_some {n : Nat} {k : LinkKind} : ofCode n = some k ↔ n = k.code := by
  unfold ofCode
  cases k <;> split <;> simp_all [code]

/-- CONFIGURE_REQUESTER names any class but MASTER (R176). -/
@[simp] theorem RequesterClass.ofCode_eq_some {n : Nat} {c : RequesterClass} :
    ofCode n = some c ↔ c ≠ .master ∧ n = c.code := by
  unfold ofCode
  cases c <;> split <;> simp_all [code]

@[simp] theorem readFlag_flagOctet (b : Bool) : readFlag (flagOctet b) = some b := readFlag_eq_some.2 rfl

@[simp] theorem readOutcome_flagOctet (b : Bool) : readOutcome (flagOctet (!b)) = some b := readOutcome_eq_some.2 rfl

@[simp] theorem BearerKind.ofCode_code (k : BearerKind) : ofCode k.code = some k := ofCode_eq_some.2 rfl

@[simp] theorem Policy.ofCode_code (p : Policy) : ofCode p.code = some p := ofCode_eq_some.2 rfl

@[simp] theorem AllowanceKind.ofCode_code (k : AllowanceKind) : ofCode k.code = some k := ofCode_eq_some.2 rfl

@[simp] theorem Column.ofCode_code (c : Column) : ofCode c.code = some c := ofCode_eq_some.2 rfl

@[simp] theorem LinkKind.ofCode_code (k : LinkKind) : ofCode k.code = some k := ofCode_eq_some.2 rfl

theorem RequesterClass.ofCode_code {c : RequesterClass} (other : c ≠ .master) : ofCode c.code = some c :=
  ofCode_eq_some.2 ⟨other, rfl⟩

@[simp] theorem Permit.ofCode_code (p : Permit) : ofCode p.code = p := by cases p <;> rfl

@[simp] theorem readSet_setOctet (f : Four Bool) : readSet (setOctet f) = f := by
  obtain ⟨a, b, c, d⟩ := f
  revert a b c d
  decide

end Sys2Proof.Machine
end

section
/-! SUPPORT. A request of fixed layout as the numbers in its fields: they fit their widths, and reading them gives the
request back (R186). -/

namespace Sys2Proof.Machine

/-! ## Route targets -/

/-- A route target as the number in its four octets. -/
def RouteTarget.carried : RouteTarget → Nat
  | .home code => code
  | .default => 2 ^ 24

/-- A target whose home code, where it has one, is within its range (R153). -/
def RouteTarget.inRange : RouteTarget → Bool
  | .home code => code ≤ Config.maxCode
  | .default => true

/-- What is read of a target's number: of a DEFAULT target its first octet alone. -/
def targetAsRead (v : Nat) : Nat := if v / 2 ^ 24 = 1 then 2 ^ 24 else v

theorem RouteTarget.inRange_home {code : Nat} : (home code).inRange = true ↔ code ≤ 999999 := decide_eq_true_iff

theorem RouteTarget.inRange_iff (t : RouteTarget) : t.inRange = true ↔ ∀ code, t = .home code → code ≤ 999999 := by
  cases t with
  | default => simp [inRange]
  | home code => simp [inRange_home]

theorem RouteTarget.carried_lt {t : RouteTarget} (ranged : t.inRange = true) : t.carried < 4294967296 := by
  cases t with
  | default => decide
  | home code =>
    have := inRange_home.1 ranged
    simp only [carried]
    omega

theorem targetAsRead_lt {v : Nat} (fits : v < 4294967296) : targetAsRead v < 256 ^ 4 := by
  unfold targetAsRead
  split
  · decide
  · exact fits

/-- A number is read as the target in range that carries what is read of it. -/
theorem readTarget_eq_some {v : Nat} {t : RouteTarget} :
    readTarget v = some t ↔ t.inRange = true ∧ targetAsRead v = t.carried := by
  have limit : Config.maxCode = 999999 := rfl
  unfold readTarget targetAsRead
  cases t with
  | default =>
    simp only [RouteTarget.inRange, RouteTarget.carried, true_and]
    repeat' split
    all_goals simp
    all_goals omega
  | home code =>
    simp only [RouteTarget.inRange_home, RouteTarget.carried]
    repeat' split
    all_goals simp
    all_goals omega

theorem readTarget_carried {t : RouteTarget} (ranged : t.inRange = true) : readTarget t.carried = some t := by
  refine readTarget_eq_some.2 ⟨ranged, ?_⟩
  cases t with
  | default => rfl
  | home code =>
    have := RouteTarget.inRange_home.1 ranged
    exact if_neg (by simp only [RouteTarget.carried]; omega)

/-- A target in range is laid out as its number in four octets. -/
theorem RouteTarget.octets_eq {t : RouteTarget} (ranged : t.inRange = true) :
    t.octets = Machine.octets 4 t.carried := by
  cases t with
  | default => rfl
  | home code =>
    have above : code / 256 ^ 3 = 0 := Nat.div_eq_of_lt (by have := inRange_home.1 ranged; omega)
    have four : Machine.octets 4 code = BitVec.ofNat 8 (code / 256 ^ 3) :: Machine.octets 3 code := rfl
    rw [carried, four, above]
    rfl

theorem RouteTarget.octets_length (t : RouteTarget) : t.octets.length = 4 := by cases t <;> rfl

theorem Request.wf_setRoute {target : RouteTarget} {list : List LinkId} : (Request.setRoute target list).wf = true ↔
    target.inRange = true ∧ 1 ≤ list.length ∧ list.length ≤ 4 ∧ list.Nodup := by
  change (target.inRange && decide (1 ≤ list.length) && decide (list.length ≤ 4) && decide list.Nodup) = true ↔ _
  simp [and_assoc]

/-! ## The fields of a request -/

/-- The numbers that a request carries in the fields of its body, for a kind of fixed layout. -/
def Request.fields : Request → List Nat
  | .attach i home cell => [i.toNat, home, cell.val]
  | .lookup i => [i.toNat]
  | .lookupHandle h => [h.val]
  | .openBearer h k e => [h.val, k.code, flagOctet e]
  | .closeBearer h k => [h.val, k.code]
  | .detach i => [i.toNat]
  | .retire h i => [h.val, i.toNat]
  | .admitContext h i plan cap policy => [h.val, i.toNat, plan.val, cap, policy.code]
  | .refuse h i => [h.val, i.toNat]
  | .nextSettlement skip => [skip]
  | .settleContext h => [h.val]
  | .addAllowance h k amount tag => [h.val, k.code, amount, tag.toNat]
  | .removeAllowance h tag => [h.val, tag.toNat]
  | .setCap h cap policy => [h.val, cap, policy.code]
  | .setPlan h plan => [h.val, plan.val]
  | .reportUsage h slot zone up down voice => [h.val, slot.val, zone, up, down, voice]
  | .writeProfileHeader zone permit eligible park grace => [zone, permit.code, setOctet eligible, park, grace]
  | .writeTariffRow plan column b pd pv i m => [plan.val, column.code, b, pd, pv, i, m]
  | .discardProfile slot => [slot.val]
  | .enterZone zone => [zone]
  | .setCeiling c => [c.code]
  | .configureLink slot kind op dwell track base f1 f2 threshold count =>
    [slot.val, kind.code, op, dwell, track, base, f1, f2, threshold, count]
  | .probeResult slot success quality operator => [slot.val, flagOctet (!success), quality, operator]
  | .openLink slot => [slot.val]
  | .closeLink slot => [slot.val]
  | .clearRoute target => [target.carried]
  | .readRoute target => [target.carried]
  | .shift src dst => [src.val, dst.val]
  | .configureRequester r cls level => [r.val, cls.code, level]
  | .setEventMask mask => [mask.toNat]
  | .ackEvents set e => [set.toNat, flagOctet e]
  | .setLimits probation idle linger hold quiet => [probation, idle, linger, hold, quiet]
  | _ => []

/-- The kinds whose body has a list or an optional part behind its fields. -/
def Kind.isFixed : Kind → Bool
  | .writeCandidates | .setRoute | .readProfile => false
  | _ => true

theorem Kind.read_of_isFixed {k : Kind} (fixed : k.isFixed = true) (body : List Byte) :
    k.read body = (splitFields k.widths body).bind k.readFixed := by
  cases k
  case writeCandidates | setRoute | readProfile => cases fixed
  all_goals rfl

/-- The body of a request of a fixed layout is its fields, each in its width. -/
theorem Request.body_eq_layFields {q : Request} (wf : q.wf = true) (fixed : q.kind.isFixed = true) :
    q.body = layFields (q.kind.widths.zip q.fields) := by
  cases q
  case writeCandidates | setRoute | readProfile => cases fixed
  case clearRoute target | readRoute target =>
    simp [Request.body, Request.fields, Request.kind, Kind.widths, layFields, target.octets_eq wf]
  all_goals simp [Request.body, Request.fields, Request.kind, Kind.widths, layFields]

@[simp] theorem BearerKind.code_lt (k : BearerKind) : k.code < 256 := by cases k <;> decide
@[simp] theorem Policy.code_lt (p : Policy) : p.code < 256 := by cases p <;> decide
@[simp] theorem AllowanceKind.code_lt (k : AllowanceKind) : k.code < 256 := by cases k <;> decide
@[simp] theorem Column.code_lt (c : Column) : c.code < 256 := by cases c <;> decide
@[simp] theorem LinkKind.code_lt (k : LinkKind) : k.code < 256 := by cases k <;> decide
@[simp] theorem RequesterClass.code_lt (c : RequesterClass) : c.code < 256 := by cases c <;> decide
@[simp] theorem Permit.code_lt (p : Permit) : p.code < 256 := by cases p <;> decide
@[simp] theorem flagOctet_lt (b : Bool) : flagOctet b < 256 := by cases b <;> decide

@[simp] theorem setOctet_lt (f : Four Bool) : setOctet f < 256 := by
  obtain ⟨a, b, c, d⟩ := f
  revert a b c d
  decide

theorem AllowanceKind.maximum_lt (k : AllowanceKind) : k.maximum < 1099511627776 := by cases k <;> decide

/-- The fields of a request in range fit their widths. -/
theorem Request.fields_fit {q : Request} (wf : q.wf = true) (fixed : q.kind.isFixed = true) :
    List.Forall₂ (fun w v => v < 256 ^ w) q.kind.widths q.fields := by
  have code : Config.maxCode = 999999 := rfl
  have cap : Config.maxCap = 4294967295 := rfl
  cases q
  case writeCandidates | setRoute | readProfile => cases fixed
  case clearRoute target | readRoute target =>
    simpa [Request.fields, Request.kind, Kind.widths] using target.carried_lt wf
  case addAllowance h k amount tag =>
    have bound := k.maximum_lt
    simp [Request.wf] at wf
    simp [Request.fields, Request.kind, Kind.widths]
    omega
  case probeResult slot success quality operator =>
    simp [Request.wf] at wf
    simp [Request.fields, Request.kind, Kind.widths]
    split at wf <;> omega
  all_goals
    simp [Request.wf] at wf
    simp [Request.fields, Request.kind, Kind.widths] <;> omega

/-! ## The fields read -/

/-- What is read of the fields of a body: a permit or ceiling of any other code as DARK (R104, R121), a slot set without
bits 4 to 7, a DEFAULT target without its home octets (R186). -/
def Kind.asFields : Kind → List Nat → List Nat
  | .writeProfileHeader, [zone, permit, set, park, grace] =>
    [zone, (Permit.ofCode permit).code, setOctet (readSet set), park, grace]
  | .setCeiling, [code] => [(Permit.ofCode code).code]
  | .clearRoute, [v] => [targetAsRead v]
  | .readRoute, [v] => [targetAsRead v]
  | _, fields => fields

/-- The fields of a request in range are read as that request. -/
theorem Request.readFixed_fields {q : Request} (wf : q.wf = true) (fixed : q.kind.isFixed = true) :
    q.kind.readFixed q.fields = some q := by
  cases q
  case writeCandidates | setRoute | readProfile => cases fixed
  case clearRoute target | readRoute target =>
    simp [Request.fields, Request.kind, Kind.readFixed, readTarget_carried wf]
  case probeResult slot success quality operator =>
    simp [Request.wf] at wf
    obtain ⟨graded, coded⟩ := wf
    simp [Request.fields, Request.kind, Kind.readFixed, readUpTo_of_le coded]
    rintro rfl
    simpa using graded
  all_goals
    simp [Request.wf] at wf
    simp [Request.fields, Request.kind, Kind.readFixed, wf, readIdentity_toNat, readUpTo_of_le,
      RequesterClass.ofCode_code] <;> omega

/-- Fields that fit their widths are read as no request but one in range of that kind, and as that request's fields but
for what is not read. -/
theorem readFixed_sound {k : Kind} {q : Request} {fields : List Nat}
    (fit : List.Forall₂ (fun w v => v < 256 ^ w) k.widths fields) (read : k.readFixed fields = some q) :
    q.kind = k ∧ q.wf = true ∧ k.asFields fields = q.fields := by
  have code : Config.maxCode = 999999 := rfl
  have cap : Config.maxCap = 4294967295 := rfl
  revert fit read
  unfold Kind.readFixed
  split
  -- fields that are no kind's layout
  case h_43 => exact fun _ unread => nomatch unread
  -- CLEAR_ROUTE and READ_ROUTE
  case h_31 | h_32 =>
    intro _ read
    obtain ⟨t, found, rfl⟩ := by simpa [Option.bind_eq_some_iff] using read
    obtain ⟨ranged, carried⟩ := readTarget_eq_some.1 found
    exact ⟨rfl, ranged, congrArg (fun v => [v]) carried⟩
  all_goals
    -- each field read is the field that the request carries
    simp only [Kind.widths, List.forall₂_cons, List.forall₂_nil_right_iff, and_true]
    intro fit
    simp only [Option.bind_eq_bind, Option.bind_eq_some_iff, Option.pure_def, Option.some.injEq,
      forall_exists_index, and_imp, readBelow_eq_some, readUpTo_eq_some, readIdentity_eq_some, readEventSet_eq_some,
      readFlag_eq_some, readOutcome_eq_some, BearerKind.ofCode_eq_some, Policy.ofCode_eq_some,
      AllowanceKind.ofCode_eq_some, Column.ofCode_eq_some, LinkKind.ofCode_eq_some, RequesterClass.ofCode_eq_some,
      Option.ite_none_left_eq_some, Option.bind_none, fit]
    intros
    subst_vars
    refine ⟨rfl, ?_, ?_⟩
    · simp_all [Request.wf] <;> omega
    · simp_all [Kind.asFields, Request.fields, Nat.mod_eq_of_lt]

end Sys2Proof.Machine
end

section
/-! Bodies read as requests (O7): what of a body is read, and which requests it is read as (R182, R186). -/

namespace Sys2Proof.Machine

/-! ## What of a body is read -/

/-- A permit or ceiling code as read: any other code than SERVE's and QUIET's is DARK's (R104, R121). -/
def permitAsRead (code : Byte) : Byte := if code = 0#8 ∨ code = 1#8 then code else 3#8

/-- A body that begins with a route target as read: the home octets of a DEFAULT target are not (R186). -/
def targetBodyAsRead : List Byte → List Byte
  | 1#8 :: _ :: _ :: _ :: rest => 1#8 :: 0#8 :: 0#8 :: 0#8 :: rest
  | body => body

/-- A kind's body with zeros in the place of what is not read of it, and DARK's code in the place of what is read so. -/
def Kind.asRead : Kind → List Byte → List Byte
  | .writeProfileHeader, z1 :: z0 :: code :: set :: rest => z1 :: z0 :: permitAsRead code :: (set &&& 15#8) :: rest
  | .setCeiling, body => body.map permitAsRead
  | .setRoute, body => targetBodyAsRead body
  | .clearRoute, body => targetBodyAsRead body
  | .readRoute, body => targetBodyAsRead body
  | _, body => body

theorem targetBodyAsRead_length (body : List Byte) : (targetBodyAsRead body).length = body.length := by
  unfold targetBodyAsRead
  split <;> rfl

theorem Kind.asRead_length (k : Kind) (body : List Byte) : (k.asRead body).length = body.length := by
  unfold Kind.asRead
  split <;> simp [targetBodyAsRead_length]

/-- An octet that carries `v` is read as the octet of the permit of `v`. -/
theorem permitAsRead_ofNat {v : Nat} (fits : v < 256) :
    permitAsRead (BitVec.ofNat 8 v) = BitVec.ofNat 8 (Permit.ofCode v).code := by
  have carried (n : Nat) (small : n < 256) : BitVec.ofNat 8 v = BitVec.ofNat 8 n ↔ v = n := by
    rw [← BitVec.toNat_inj, BitVec.toNat_ofNat, BitVec.toNat_ofNat]
    omega
  unfold Permit.ofCode
  split
  · rfl
  · rfl
  · rename_i loud quiet
    exact if_neg (not_or.2
      ⟨fun h => loud ((carried 0 (by decide)).1 h), fun h => quiet ((carried 1 (by decide)).1 h)⟩)

/-- The set read from a number is carried as its lowest four bits. -/
theorem setOctet_readSet (v : Nat) : setOctet (readSet v) = v % 16 := by
  have bit (i : Nat) : flagOctet (v.testBit i) = v / 2 ^ i % 2 := by
    rw [flagOctet, Nat.testBit_eq_decide_div_mod_eq]
    split <;> simp_all
  simp only [setOctet, readSet, bit]
  omega

theorem setAsRead_ofNat (v : Nat) : BitVec.ofNat 8 v &&& 15#8 = BitVec.ofNat 8 (setOctet (readSet v)) := by
  apply BitVec.eq_of_toNat_eq
  have low : (BitVec.ofNat 8 v &&& 15#8).toNat = v % 2 ^ 8 % 2 ^ 4 := by
    rw [BitVec.toNat_and, BitVec.toNat_ofNat]
    exact Nat.and_two_pow_sub_one_eq_mod _ 4
  rw [low, setOctet_readSet, BitVec.toNat_ofNat]
  omega

/-- Four octets of a target are read as those of the number read. -/
theorem targetBodyAsRead_octets {v : Nat} (fits : v < 4294967296) (rest : List Byte) :
    targetBodyAsRead (octets 4 v ++ rest) = octets 4 (targetAsRead v) ++ rest := by
  have four : octets 4 v = BitVec.ofNat 8 (v / 2 ^ 24) :: octets 3 v := rfl
  unfold targetAsRead
  by_cases default : v / 2 ^ 24 = 1
  · rw [if_pos default, four, default]
    rfl
  · rw [if_neg default]
    unfold targetBodyAsRead
    split
    · rename_i head
      rw [four, List.cons_append, List.cons.injEq, ← BitVec.toNat_inj, BitVec.toNat_ofNat] at head
      obtain ⟨first, -⟩ := head
      have : v / 2 ^ 24 = 1 := by
        change _ = 1 at first
        omega
      exact absurd this default
    · rfl

/-- What is read of a body is what is read of its fields. -/
theorem Kind.asRead_layFields {k : Kind} (fixed : k.isFixed = true) {fields : List Nat}
    (fit : List.Forall₂ (fun w v => v < 256 ^ w) k.widths fields) :
    k.asRead (layFields (k.widths.zip fields)) = layFields (k.widths.zip (k.asFields fields)) := by
  cases k
  case writeCandidates | setRoute | readProfile => cases fixed
  case writeProfileHeader =>
    simp only [Kind.widths, List.forall₂_cons_left_iff, List.forall₂_nil_left_iff] at fit
    obtain ⟨zone, _, -,
      ⟨permit, _, permit_fits, ⟨set, _, -, ⟨park, _, -, ⟨grace, _, -, rfl, rfl⟩, rfl⟩, rfl⟩, rfl⟩, rfl⟩ := fit
    simp [Kind.asRead, Kind.asFields, Kind.widths, layFields, octets, permitAsRead_ofNat permit_fits, setAsRead_ofNat]
  case setCeiling =>
    simp only [Kind.widths, List.forall₂_cons_left_iff, List.forall₂_nil_left_iff] at fit
    obtain ⟨c, _, c_fits, rfl, rfl⟩ := fit
    simp [Kind.asRead, Kind.asFields, Kind.widths, layFields, octets, permitAsRead_ofNat c_fits]
  case clearRoute | readRoute =>
    simp only [Kind.widths, List.forall₂_cons_left_iff, List.forall₂_nil_left_iff] at fit
    obtain ⟨v, _, v_fits, rfl, rfl⟩ := fit
    exact targetBodyAsRead_octets v_fits []
  all_goals rfl

theorem readTarget_targetAsRead (v : Nat) : readTarget (targetAsRead v) = readTarget v := by
  have again : targetAsRead (targetAsRead v) = targetAsRead v := by
    unfold targetAsRead
    split <;> rfl
  ext t
  rw [readTarget_eq_some, readTarget_eq_some, again]

/-- Fields are read as what is read of them. -/
theorem Kind.readFixed_asFields (k : Kind) (fields : List Nat) :
    k.readFixed (k.asFields fields) = k.readFixed fields := by
  unfold Kind.asFields
  split
  · simp [Kind.readFixed]
  · simp [Kind.readFixed]
  · simp [Kind.readFixed, readTarget_targetAsRead]
  · simp [Kind.readFixed, readTarget_targetAsRead]
  · rfl

/-- What is read of fields fits their widths. -/
theorem Kind.asFields_fit {k : Kind} {fields : List Nat}
    (fit : List.Forall₂ (fun w v => v < 256 ^ w) k.widths fields) :
    List.Forall₂ (fun w v => v < 256 ^ w) k.widths (k.asFields fields) := by
  unfold Kind.asFields
  split
  · simp_all [Kind.widths]
  · simp_all [Kind.widths]
  · simp_all [Kind.widths, targetAsRead]; split <;> simp_all
  · simp_all [Kind.widths, targetAsRead]; split <;> simp_all
  · exact fit

/-! ## The kinds of fixed layout -/

/-- A layout has the length of its widths. -/
theorem layFields_length {widths fields : List Nat} (same : widths.length = fields.length) :
    (layFields (widths.zip fields)).length = widths.sum := by
  induction widths generalizing fields with
  | nil => rfl
  | cons w ws ih =>
    cases fields with
    | nil => cases same
    | cons v vs => simp [layFields, ih (Nat.succ.inj same)]

/-- A body of the length of the widths is cut into fields. -/
theorem splitFields_of_length {widths : List Nat} {bytes : List Byte} (length : bytes.length = widths.sum) :
    ∃ fields, splitFields widths bytes = some fields := by
  induction widths generalizing bytes with
  | nil => exact ⟨[], by rw [List.length_eq_zero_iff.1 length]; rfl⟩
  | cons w ws ih =>
    rw [List.sum_cons] at length
    obtain ⟨rest, cut⟩ := ih (bytes := bytes.drop w) (by rw [List.length_drop]; omega)
    exact ⟨_, by rw [splitFields, if_neg (by omega), cut]; rfl⟩

/-- Two lists of fields that fit their widths and are laid out the same are the same. -/
theorem layFields_inj {widths fields others : List Nat} (fit : List.Forall₂ (fun w v => v < 256 ^ w) widths fields)
    (fit' : List.Forall₂ (fun w v => v < 256 ^ w) widths others)
    (same : layFields (widths.zip fields) = layFields (widths.zip others)) : fields = others := by
  have cut := splitFields_eq_some.2 ⟨fit, rfl⟩
  have cut' := splitFields_eq_some.2 ⟨fit', rfl⟩
  rw [same] at cut
  exact Option.some.inj (cut.symm.trans cut')

/-- The length of a body of fixed layout. -/
theorem Request.body_length {q : Request} (wf : q.wf = true) (fixed : q.kind.isFixed = true) :
    q.body.length = q.kind.widths.sum := by
  rw [Request.body_eq_layFields wf fixed, layFields_length (Request.fields_fit wf fixed).length_eq]

/-- A body of a kind of fixed layout reads as the requests that it is read as laid out. -/
theorem read_fixed_iff {k : Kind} (fixed : k.isFixed = true) {body : List Byte} {q : Request} :
    k.read body = some q ↔ q.kind = k ∧ q.wf = true ∧ k.asRead body = q.body := by
  rw [Kind.read_of_isFixed fixed, Option.bind_eq_some_iff]
  constructor
  · rintro ⟨fields, cut, read⟩
    obtain ⟨fit, rfl⟩ := splitFields_eq_some.1 cut
    obtain ⟨rfl, wf, same⟩ := readFixed_sound fit read
    exact ⟨rfl, wf, by rw [Kind.asRead_layFields fixed fit, same, Request.body_eq_layFields wf fixed]⟩
  · rintro ⟨rfl, wf, same⟩
    have fits := Request.fields_fit wf fixed
    rw [Request.body_eq_layFields wf fixed] at same
    obtain ⟨fields, cut⟩ := splitFields_of_length (widths := q.kind.widths) (bytes := body)
      (by rw [← Kind.asRead_length, same, layFields_length fits.length_eq])
    obtain ⟨fit, rfl⟩ := splitFields_eq_some.1 cut
    rw [Kind.asRead_layFields fixed fit] at same
    have read := Request.readFixed_fields wf fixed
    rw [← layFields_inj (Kind.asFields_fit fit) fits same] at read
    exact ⟨fields, splitFields_eq_some.2 ⟨fit, rfl⟩, Kind.readFixed_asFields _ _ ▸ read⟩

end Sys2Proof.Machine
end

section
/-! Bodies that end in a list or an optional part, and every body read as a request (O7). -/

namespace Sys2Proof.Machine

/-! ## Lists of slots -/

theorem readSlots_eq_some {entries : List Nat} {list : List LinkId} :
    readSlots entries = some list ↔ entries = list.map (·.val) := by
  induction entries generalizing list with
  | nil => cases list <;> simp [readSlots]
  | cons v vs ih =>
    cases list with
    | nil => simp [readSlots, Option.bind_eq_some_iff]
    | cons i is => simp [readSlots, Option.bind_eq_some_iff, ih]

/-- A route's list is 1 to 4 slots, none twice (R153). -/
theorem readRouteList_eq_some {entries : List Nat} {list : List LinkId} :
    readRouteList entries = some list ↔
      entries = list.map (·.val) ∧ 1 ≤ list.length ∧ list.length ≤ 4 ∧ list.Nodup := by
  simp only [readRouteList, Option.bind_eq_some_iff, readSlots_eq_some, Option.ite_none_right_eq_some,
    Option.some.injEq]
  constructor
  · rintro ⟨_, rfl, counts, rfl⟩
    exact ⟨rfl, counts⟩
  · rintro ⟨rfl, counts⟩
    exact ⟨list, rfl, counts, rfl⟩

/-! ## The kinds with a list or an optional part -/

/-- A WRITE_CANDIDATES is its slot and then its codes. -/
theorem read_writeCandidates_iff {body : List Byte} {q : Request} : Kind.writeCandidates.read body = some q ↔
    q.kind = .writeCandidates ∧ q.wf = true ∧ body = q.body := by
  constructor
  · intro read
    obtain _ | ⟨b, rest⟩ := body
    · simp [Kind.read] at read
    · obtain ⟨codes, cut, slot, first, rfl⟩ :
          ∃ codes, splitEntries 3 (rest.length + 1) rest = some codes ∧ ∃ slot, number [b] = slot.val ∧
            Request.writeCandidates slot codes = q := by
        simpa [Kind.read, Option.bind_eq_some_iff] using read
      obtain ⟨fit, laid⟩ := (splitEntries_eq_some (by decide) (by omega)).1 cut
      have head : [b] = octets 1 slot.val := by rw [← first, octets_number (n := 1) rfl]
      refine ⟨rfl, by simpa [Request.wf] using fit, ?_⟩
      rw [Request.body, ← head, ← laid]
      rfl
  · rintro ⟨kind, wf, rfl⟩
    cases q
    case writeCandidates slot codes =>
      have fit : ∀ c ∈ codes, c < 256 ^ 3 := by simpa [Request.wf] using wf
      have first : octets 1 slot.val = [BitVec.ofNat 8 slot.val] := by simp [octets]
      have slot_fits : number [BitVec.ofNat 8 slot.val] = slot.val := by rw [← first]; exact number_octets (by omega)
      have cut := (splitEntries_eq_some (w := 3) (by decide) (Nat.le_succ _)).2 ⟨fit, rfl⟩
      change Kind.writeCandidates.read (octets 1 slot.val ++ codes.flatMap (octets 3)) = _
      rw [first, Kind.read]
      simp only [List.singleton_append, List.drop_succ_cons, List.drop_zero, List.length_cons, cut, List.take_succ_cons,
        List.take_zero, slot_fits, readBelow_val]
      rfl
    all_goals cases kind

/-- A READ_PROFILE is its slot, and a row's plan class and column where it has three octets. -/
theorem read_readProfile_iff {body : List Byte} {q : Request} : Kind.readProfile.read body = some q ↔
    q.kind = .readProfile ∧ q.wf = true ∧ body = q.body := by
  constructor
  · intro read
    simp only [Kind.read] at read
    split at read
    · rename_i slot cut
      obtain ⟨i, rfl, rfl⟩ : ∃ i, slot = i.val ∧ Request.readProfile i none = q := by
        simpa [Option.bind_eq_some_iff] using read
      exact ⟨rfl, rfl, by simpa [layFields, Request.body] using (splitFields_eq_some.1 cut).2⟩
    · rename_i slot plan column cut _
      obtain ⟨i, rfl, p, rfl, c, rfl, rfl⟩ : ∃ i, slot = i.val ∧ ∃ p, plan = p.val ∧
          ∃ c, column = Column.code c ∧ Request.readProfile i (some (p, c)) = q := by
        simpa [Option.bind_eq_some_iff] using read
      exact ⟨rfl, rfl, by simpa [layFields, Request.body] using (splitFields_eq_some.1 cut).2⟩
    · cases read
  · rintro ⟨kind, wf, rfl⟩
    cases q
    case readProfile slot row =>
      have slot_fits : slot.val % 256 = slot.val := by omega
      obtain _ | ⟨plan, column⟩ := row
      · simp [Kind.read, Request.body, slot_fits]
      · have plan_fits : plan.val % 256 = plan.val := by omega
        have long : splitFields [] (octets 1 plan.val ++ octets 1 column.code) = none := rfl
        simp [Kind.read, Request.body, layFields, slot_fits, plan_fits, Nat.mod_eq_of_lt column.code_lt, long]
    all_goals cases kind

/-- A SET_ROUTE is its target and then its slots. -/
theorem read_setRoute_iff {body : List Byte} {q : Request} : Kind.setRoute.read body = some q ↔
    q.kind = .setRoute ∧ q.wf = true ∧ targetBodyAsRead body = q.body := by
  by_cases short : body.length < 4
  · refine iff_of_false (by simp [Kind.read, short]) ?_
    rintro ⟨kind, -, laid⟩
    cases q
    case setRoute target list =>
      have long := congrArg List.length laid
      rw [targetBodyAsRead_length, Request.body, List.length_append, target.octets_length] at long
      omega
    all_goals cases kind
  · have taken : (body.take 4).length = 4 := by rw [List.length_take]; omega
    have fits : number (body.take 4) < 4294967296 := by simpa [taken] using number_lt (body.take 4)
    have read : Kind.setRoute.read body = some q ↔
        ∃ entries, splitEntries 1 body.length (body.drop 4) = some entries ∧
          ∃ target, readTarget (number (body.take 4)) = some target ∧
            ∃ list, readRouteList entries = some list ∧ Request.setRoute target list = q := by
      simp [Kind.read, short, Option.bind_eq_some_iff]
    have asRead : targetBodyAsRead body = octets 4 (targetAsRead (number (body.take 4))) ++ body.drop 4 := by
      rw [← targetBodyAsRead_octets fits, octets_number taken, List.take_append_drop]
    have slots (list : List LinkId) :
        (list.map (·.val)).flatMap (octets 1) = list.flatMap (fun i => octets 1 i.val) := List.flatMap_map ..
    have cut (entries : List Nat) := splitEntries_eq_some (w := 1) (by decide) (entries := entries)
      (show (body.drop 4).length ≤ body.length by rw [List.length_drop]; omega)
    simp only [read, asRead, cut, readTarget_eq_some, readRouteList_eq_some]
    constructor
    · rintro ⟨_, ⟨-, laid⟩, target, ⟨ranged, carried⟩, list, ⟨rfl, counts⟩, rfl⟩
      refine ⟨rfl, Request.wf_setRoute.2 ⟨ranged, counts⟩, ?_⟩
      rw [Request.body, laid, slots, carried, target.octets_eq ranged]
    · rintro ⟨kind, wf, laid⟩
      cases q
      case setRoute target list =>
        have ⟨ranged, counts⟩ := Request.wf_setRoute.1 wf
        rw [Request.body, target.octets_eq ranged] at laid
        obtain ⟨head, tail⟩ := List.append_inj laid (by simp)
        refine ⟨list.map (·.val), ⟨?_, tail.trans (slots list).symm⟩, target, ⟨ranged, ?_⟩, list, ⟨rfl, counts⟩,
          rfl⟩
        · simp only [List.forall_mem_map]
          intro i _
          omega
        · rw [← number_octets (targetAsRead_lt fits), head, number_octets (target.carried_lt ranged)]
      all_goals cases kind

/-- Every body of every kind. -/
theorem read_iff {k : Kind} {body : List Byte} {q : Request} :
    k.read body = some q ↔ q.kind = k ∧ q.wf = true ∧ k.asRead body = q.body := by
  cases fixed : k.isFixed with
  | true => exact read_fixed_iff fixed
  | false =>
    cases k
    case writeCandidates => exact read_writeCandidates_iff
    case readProfile => exact read_readProfile_iff
    case setRoute => exact read_setRoute_iff
    all_goals cases fixed

/-- Settles O7: the statement's ranges are those of `Request.wf`, what it reads of a body is `Kind.asRead`, and the
length of a body that is read is that of the request it is read as. -/
theorem requestBodyReadsBack : Obligations.RequestBodyReadsBack := by
  unfold Obligations.RequestBodyReadsBack
  intro inRange
  have ranged (q : Request) : inRange q ↔ q.wf = true := by
    have code : Config.maxCode = 999999 := rfl
    have cap : Config.maxCap = 4294967295 := rfl
    have octet (v : Nat) : v < 2 ^ 8 ↔ v ≤ 255 := Nat.lt_succ_iff
    have octets2 (v : Nat) : v < 2 ^ 16 ↔ v ≤ 65535 := Nat.lt_succ_iff
    have octets3 (v : Nat) : v < 2 ^ 24 ↔ v ≤ 16777215 := Nat.lt_succ_iff
    have octets4 (v : Nat) : v < 2 ^ 32 ↔ v ≤ 4294967295 := Nat.lt_succ_iff
    cases q
    case addAllowance h k amount tag =>
      have both {a b : Prop} [Decidable a] [Decidable b] : a ∧ b ↔ (decide a && decide b) = true := by simp
      cases k <;> exact both
    case probeResult slot success quality operator =>
      simp only [inRange, Request.wf]
      clear inRange
      cases success <;> simp [code] <;> omega
    case clearRoute target | readRoute target => exact target.inRange_iff.symm
    case setRoute target list =>
      rw [Request.wf_setRoute, target.inRange_iff]
    all_goals
      simp only [inRange, Request.wf, octet, octets2, octets3, octets4, code, cap, Bool.and_eq_true, decide_eq_true_eq,
        List.all_eq_true, and_assoc]
  clear_value inRange
  intro permit target asRead
  have same (k : Kind) (body : List Byte) : asRead k body = k.asRead body := rfl
  clear_value asRead
  clear target permit
  intro lengthFits
  have fitting (q : Request) (wf : q.wf = true) : lengthFits q.kind q.body.length := by
    cases fixed : q.kind.isFixed with
    | true =>
      rw [Request.body_length wf fixed]
      generalize q.kind = k at fixed
      cases k
      case writeCandidates | setRoute | readProfile => cases fixed
      all_goals rfl
    | false =>
      cases q
      case writeCandidates slot codes =>
        change (Request.body _).length % 3 = 1
        simp [Request.body]
      case setRoute target list =>
        change 5 ≤ (Request.body _).length ∧ (Request.body _).length ≤ 8
        obtain ⟨-, filled, few, -⟩ := Request.wf_setRoute.1 wf
        simp [Request.body, target.octets_length]
        omega
      case readProfile slot row =>
        change (Request.body _).length = 1 ∨ (Request.body _).length = 3
        cases row <;> simp [Request.body, layFields]
      all_goals cases fixed
  clear_value lengthFits
  refine fun k body => ⟨fun q => ?_, fun unfit => ?_⟩
  · rw [read_iff, ranged, same]
  · by_contra read
    obtain ⟨q, read⟩ := Option.ne_none_iff_exists'.1 read
    obtain ⟨rfl, wf, laid⟩ := read_iff.1 read
    rw [← Kind.asRead_length, laid] at unfit
    exact unfit (fitting q wf)

end Sys2Proof.Machine
end

section
/-! What the requests of the Event Set and the quiet timer's expiry answer and write (O50). -/

namespace Sys2Proof.Machine

/-- The line's condition as R194 says it. -/
theorem EventSet.lineCondition_eq (e : EventSet) : e.lineCondition = decide e.calls := by
  rw [Bool.eq_iff_iff]
  simp [EventSet.lineCondition, EventSet.calls]

theorem flagField_line (e : EventSet) : flagField e.lineCondition = octets 1 (if e.calls then 1 else 0) := by
  rw [e.lineCondition_eq, flagField_decide]

/-- Numbers 0 to 12 are those of the acknowledge-cleared events (R191). -/
theorem EventSet.acknowledged_eq (e : EventSet) (set : BitVec 17) :
    e.acknowledged set = set &&& e.pendingSet &&& 8191#17 := rfl

/-- READ_EVENTS (R192). -/
theorem readEventsRule_eq (s : State) (b : List Byte) :
    let e := s.events
    let d := e.details
    readEventsRule (some .readEvents) b s = (s, ⟨.ok,
      octets 3 e.pendingSet.toNat ++ octets 3 e.mask.toNat ++ octets 2 d.retiredHandle.val
        ++ optOctets 1 (d.retiredCause.map Cause.code) ++ octets 2 d.spentHandle.val ++ octets 1 d.spentTag.toNat
        ++ octets 2 d.capHandle.val ++ optOctets 1 (d.foundSlot.map (·.val)) ++ optOctets 1 (d.lostSlot.map (·.val))
        ++ optOctets 1 (d.lapsedSlot.map (·.val)) ++ optOctets 1 (d.weakSlot.map (·.val)) ++ octets 2 d.shiftMoved
        ++ octets 2 d.abortMoved ++ octets 2 d.failoverParked ++ octets 2 d.graceZone
        ++ optOctets 1 (d.coverageMode.map Mode.code) ++ octets 2 d.missingZone ++ optOctets 2 e.quiet
        ++ octets 1 (if e.calls then 1 else 0)⟩) := by
  simp only [readEventsRule, flagField_line, allEvents, List.flatMap_cons, List.flatMap_nil, Details.octets,
    eventSetOctets, handleOctets, optSlot, Reply.ok, List.append_assoc, List.nil_append]

/-- SET_EVENT_MASK (R192). -/
theorem setEventMaskRule_eq (s : State) (mask : BitVec 17) (b : List Byte) :
    let masked := { s.events with mask := mask }
    setEventMaskRule (some (.setEventMask mask)) b s = ({ s with events := masked },
      ⟨.ok, octets 3 mask.toNat ++ octets 1 (if masked.calls then 1 else 0)⟩) := by
  simp only [setEventMaskRule, flagField_line]
  rfl

theorem quietStart_eq (endService : Bool) (running : Timer) (time : QuietTime) :
    (if endService = true then quietStart running time else running)
      = if endService = true ∧ 0 < time.micros then some time.micros else running := by
  cases endService with
  | false => simp
  | true =>
    unfold quietStart
    by_cases zero : time.micros = 0
    · simp [zero]
    · simp [zero, Nat.pos_of_ne_zero zero]

/-- The Event Set behind an ACK_EVENTS (R193). -/
theorem EventSet.acknowledge_eq (e : EventSet) (set : BitVec 17) (endService : Bool) (time : QuietTime) :
    e.acknowledge set endService time = { e with
      pendingSet := e.pendingSet &&& ~~~(e.acknowledged set)
      quiet := if endService = true ∧ 0 < time.micros then some time.micros else e.quiet } := by
  rw [← quietStart_eq]
  rfl

/-- ACK_EVENTS, all but the line at the end of the request (R193). -/
theorem ackEventsRule_eq (s : State) (set : BitVec 17) (endService : Bool) (b : List Byte) :
    let e := s.events
    let cleared := e.acknowledged set
    let left := e.pendingSet &&& ~~~cleared
    let line := endService = false ∧ e.quiet = none ∧ left &&& ~~~e.mask ≠ 0
    ackEventsRule (some (.ackEvents set endService)) b s =
      ({ s with events := { e with
          pendingSet := left
          quiet := if endService = true ∧ 0 < s.limits.quiet.micros then some s.limits.quiet.micros else e.quiet } },
        ⟨.ok, octets 3 cleared.toNat ++ (allEvents.filter (fun v => cleared.getLsbD v.num)).flatMap e.details.octets
          ++ octets 3 left.toNat ++ octets 1 (if line then 1 else 0)⟩) := by
  have line : (!endService && (s.events.acknowledge set endService s.limits.quiet).lineCondition)
      = decide (endService = false ∧ s.events.quiet = none
        ∧ (s.events.pendingSet &&& ~~~(s.events.acknowledged set)) &&& ~~~s.events.mask ≠ 0) := by
    rw [EventSet.lineCondition_eq, EventSet.acknowledge_eq]
    cases endService <;> simp [EventSet.calls]
  simp only [ackEventsRule, ackFields, line, flagField_decide]
  rw [EventSet.acknowledge_eq]
  rfl

/-- A taken ACK_EVENTS ends an attention service where its end flag is set (R193). -/
theorem State.endsService_eq {s : State} {r : RequesterId} {m : Message} {set : BitVec 17} {endService : Bool}
    (serves : s.Serves r m (.ackEvents set endService)) : s.endsService = endService := by
  obtain ⟨served, passes, kind, read⟩ := serves
  have coded : Kind.ofCode m.kind.toNat = some .ackEvents := by rw [kind]; exact Kind.ofCode_code _
  have read : Kind.ackEvents.read m.body = some (.ackEvents set endService) := read
  simp [State.endsService, served, passes, coded, read]

/-- ACK_EVENTS: its rule, the end of its service, and the line inactive where it ends an attention service and no hold
timer expiry is taken behind its answer (R193, R194). -/
theorem exec_ackEvents {s : State} {r : RequesterId} {m : Message} {set : BitVec 17} {endService : Bool}
    (serves : s.Serves r m (.ackEvents set endService)) {acked : State} {reply : Reply}
    (done : ackEventsRule (some (.ackEvents set endService)) m.body s = (acked, reply)) :
    exec .ackEvents s = .next
      (if endService = true ∧ ¬(s.hold.expiryDue = true ∧ s.hold.state = .held) then
          (acked.finish r m reply).lineInactive
        else acked.finish r m reply) := by
  have line : (s.endsService && !s.expiryWaits) = true
      ↔ endService = true ∧ ¬(s.hold.expiryDue = true ∧ s.hold.state = .held) := by
    simp [State.endsService_eq serves, State.expiryWaits, imp_iff_not_or]
  obtain ⟨served, passes, kind, read⟩ := serves
  have served := State.serve_eq (rule := ackEventsRule) served passes kind read
  rw [done] at served
  simp only [← line, ← served]
  rfl

/-- Settles O50: each rule by its equation, the end of ACK_EVENTS by whether an expiry waits, and the expiry by its
definition. -/
theorem eventRequestsServed : Obligations.EventRequestsServed := by
  intro s r m e d
  refine ⟨fun serves => ?_, fun mask serves => ?_, fun set endService serves => ?_, fun running => ?_⟩
  · exact exec_ruled serves rfl (readEventsRule_eq s m.body)
  · exact exec_ruled serves rfl (setEventMaskRule_eq s mask m.body)
  · exact exec_ackEvents serves (ackEventsRule_eq s set endService m.body)
  · exact congrArg Host.Outcome.next (if_pos (Option.isSome_iff_ne_none.2 running))

end Sys2Proof.Machine
end

section
/-! SUPPORT. The flags of the condition-cleared events (R191): no operation but the end of an event takes one down
(`State.KeepsFlags`), and none lets a context wait in a lifecycle queue untold (`State.TellsQueues`). -/

namespace Sys2Proof.Machine

/-- No flag of a condition-cleared event, number 13 to 16, is taken down. -/
def State.KeepsFlags (s t : State) : Prop := ∀ e : Event, 13 ≤ e.num → s.isPending e = true → t.isPending e = true

namespace State.KeepsFlags

variable {s t u : State}

theorem of_or {flags : BitVec 17} (pending : t.events.pendingSet = s.events.pendingSet ||| flags) :
    s.KeepsFlags t := fun e _ before => by
  simp only [State.isPending] at before
  simp [State.isPending, pending, before]

theorem of_pending (same : t.events.pendingSet = s.events.pendingSet) : s.KeepsFlags t :=
  of_or (flags := 0#17) (by simp [same])

theorem of_events (same : t.events = s.events) : s.KeepsFlags t := of_pending (by rw [same])

theorem refl (s : State) : s.KeepsFlags s := of_events rfl

theorem trans (st : s.KeepsFlags t) (tu : t.KeepsFlags u) : s.KeepsFlags u :=
  fun e standing before => tu e standing (st e standing before)

theorem raise (st : s.KeepsFlags t) (e : Event) (d : Details) : s.KeepsFlags (t.raise e d) := st.trans (of_or rfl)

theorem dropShift (st : s.KeepsFlags t) : s.KeepsFlags t.dropShift := by
  unfold State.dropShift
  split
  · exact st
  · exact (st.trans (of_events rfl)).raise _ _

/-- The operations of the Link Supervisor. -/
theorem linkClosed (s : State) : State.LinkClosed s.KeepsFlags where
  setLink _ _ st := st.trans (of_events rfl)
  raise _ _ st := st.raise _ _
  joinLost i st := by
    unfold State.joinLost
    dsimp only
    split
    · refine dropShift ?_
      exact st.trans (of_events rfl)
    · exact st.trans (of_events rfl)

theorem recompute (s : State) : s.KeepsFlags s.recompute.1 := by
  have moded (t : State) (mode : Mode) (same : t.events = s.events) : s.KeepsFlags (t.setMode mode) :=
    (of_events same).raise _ _
  unfold State.recompute
  split
  case h_1 | h_5 | h_9 | h_12 => exact refl s
  case h_3 | h_6 => exact (moded s _ rfl).trans (of_events rfl)
  case h_7 | h_8 => exact moded _ _ rfl
  all_goals exact moded s _ rfl

theorem expireGrace (s : State) : s.KeepsFlags s.expireGrace := by
  unfold State.expireGrace
  split
  · exact (of_events rfl : s.KeepsFlags _).raise _ _
  · exact refl s

theorem handOver (s : State) : s.KeepsFlags s.handOver := (linkClosed s).zoneChanges slotIds (recompute s)

theorem promote {i : ProfileId} (inv : BankInv s.bank)
    (named : (s.bank.slots.get i).role = .staged ∨ (s.bank.slots.get i).role = .grace) :
    s.KeepsFlags (s.promote i) := by
  have exchanged : s.KeepsFlags (s.exchangeRoles i) := by
    have bank (b : Bank) : s.KeepsFlags { s with bank := b } := of_events rfl
    rw [State.exchangeRoles_eq inv named]
    split
    · exact (bank _).trans (expireGrace _)
    · exact bank _
  exact exchanged.trans (handOver _)

theorem complete (k : WalkKind) (s : State) : s.KeepsFlags (k.complete s) := by
  cases k with
  | failover =>
    have done (m : Migration) (moved : Nat) : s.KeepsFlags ({ s with migration := m }.raiseFailoverDone moved) :=
      (of_events rfl : s.KeepsFlags _).raise _ _
    change s.KeepsFlags s.failoverComplete
    unfold State.failoverComplete
    dsimp only
    split
    · exact ((done _ _).raise _ _).trans (of_events rfl)
    · exact (done _ _).trans (of_events rfl)
  | shift => exact (of_events rfl : s.KeepsFlags _).raise _ _
  | unpark => exact of_events rfl
  | dark => exact (of_events rfl : s.KeepsFlags _).raise _ _

theorem clearVoyage (s : State) : s.KeepsFlags s.clearVoyage := by
  unfold State.clearVoyage
  dsimp only
  split
  · exact (of_events rfl : s.KeepsFlags _).raise _ _
  · exact of_events rfl

end State.KeepsFlags

/-! ## The contexts that wait (R35, R52) -/

/-- No flag is taken down, a context that comes to wait unhanded in the Probation Queue raises ATTACH_WAITING, and one
that joins the Settlement Queue raises SETTLE_WAITING. -/
structure State.TellsQueues (s t : State) : Prop where
  flags : s.KeepsFlags t
  attach : ∀ h, (t.ctx h).state = .probation → (t.ctx h).handed = false →
    t.isPending .attachWaiting = true ∨ ((s.ctx h).state = .probation ∧ (s.ctx h).handed = false)
  settle : ∀ h, (t.ctx h).state = .linger → t.isPending .settleWaiting = true ∨ (s.ctx h).state = .linger

/-- A record `c` in place of `b` does not make a handed entry of the Probation Queue unhanded. -/
def Context.StaysHanded (b c : Context) : Prop :=
  b.state = .probation → c.state = .probation → c.handed = false → b.handed = false

namespace State.TellsQueues

variable {s t u : State}

theorem of_keeps (flags : s.KeepsFlags t) (keeps : s.KeepsStore t) : s.TellsQueues t where
  flags := flags
  attach h probing unhanded := by
    rw [keeps.ctx] at probing unhanded
    exact .inr ⟨probing, unhanded⟩
  settle h lingering := .inr (by rwa [keeps.ctx] at lingering)

theorem refl (s : State) : s.TellsQueues s := of_keeps (.refl s) (.refl s)

theorem trans (st : s.TellsQueues t) (tu : t.TellsQueues u) : s.TellsQueues u where
  flags := st.flags.trans tu.flags
  attach h probing unhanded := by
    obtain told | ⟨probing, unhanded⟩ := tu.attach h probing unhanded
    · exact .inl told
    · exact (st.attach h probing unhanded).imp_left (tu.flags _ (by decide))
  settle h lingering := by
    obtain told | lingering := tu.settle h lingering
    · exact .inl told
    · exact (st.settle h lingering).imp_left (tu.flags _ (by decide))

theorem raise (st : s.TellsQueues t) (e : Event) (d : Details) : s.TellsQueues (t.raise e d) :=
  st.trans (of_keeps (.of_or rfl) ⟨rfl, rfl⟩)

/-- A store in which every context is FREE has none that waits. -/
theorem of_cleared (flags : s.KeepsFlags t) (store : t.store = Store.cleared) : s.TellsQueues t := by
  have free (h : Handle) : (t.ctx h).state = .free := by rw [State.ctx, store]; rfl
  exact ⟨flags, fun h probing => by simp [free] at probing, fun h lingering => by simp [free] at lingering⟩

end State.TellsQueues

theorem State.TellsQueues.commit {s : State} {h : Handle} {c : Context} (handed : (s.ctx h).StaysHanded c) :
    s.TellsQueues (s.commit h c) := by
  have pending := s.commit_isPending h c
  refine ⟨fun e _ before => by simp [pending, before], fun k probing unhanded => ?_, fun k lingering => ?_⟩
  · rw [State.ctx_commit] at probing unhanded
    split at probing
    · rename_i same
      obtain rfl := same
      rw [if_pos rfl] at unhanded
      by_cases before : (s.ctx k).state = .probation
      · exact .inr ⟨before, handed before probing unhanded⟩
      · exact .inl (by simp [pending, before, probing])
    · rename_i other
      rw [if_neg other] at unhanded
      exact .inr ⟨probing, unhanded⟩
  · rw [State.ctx_commit] at lingering
    split at lingering
    · rename_i same
      obtain rfl := same
      by_cases before : (s.ctx k).state = .linger
      · exact .inr before
      · exact .inl (by simp [pending, before, lingering])
    · exact .inr lingering

end Sys2Proof.Machine
end

section
/-! SUPPORT. The flags of the condition-cleared events under the rules of the request kinds. -/

namespace Sys2Proof.Machine

/-! ## What operations on a context keep of its having been handed (R34) -/

namespace Context

variable (c : Context)

@[simp] theorem renew_handed (d : Nat) : (c.renew d).handed = c.handed := by
  unfold Context.renew
  split <;> rfl

theorem closing_handed (voiceOpen emergency dataOpen : Bool) (d : Nat) :
    (c.closing voiceOpen emergency dataOpen d).handed = c.handed := by
  unfold closing
  dsimp only
  split <;> rfl

theorem closeBearer_handed (kind : BearerKind) (d : Nat) : (c.closeBearer kind d).handed = c.handed := by
  cases kind with
  | voice => rw [closeBearer_voice, closing_handed]
  | data => rw [closeBearer_data, closing_handed]

@[simp] theorem closeBearers_handed (keep : Bool) (d : Nat) : (c.closeBearers keep d).handed = c.handed := by
  rw [closeBearers_eq, closing_handed]

@[simp] theorem meetCap_handed (d : Nat) : (c.meetCap d).handed = c.handed := by
  unfold Context.meetCap
  split <;> simp

theorem openBearer_handed (kind : BearerKind) (emergency : Bool) :
    (c.openBearer kind emergency).handed = c.handed := by
  cases kind
  all_goals
    unfold Context.openBearer
    dsimp only
    split <;> rfl

theorem setCap_handed (cap : Nat) (policy : Policy) : (c.setCap cap policy).handed = c.handed := by
  unfold Context.setCap
  dsimp only
  split <;> rfl

theorem addedFlags_handed (kind : AllowanceKind) : (c.addedFlags kind).handed = c.handed := by cases kind <;> rfl

theorem restore_handed (i : LinkId) (d : Nat) : (c.restore i d).handed = c.handed := by
  unfold Context.restore
  split <;> rfl

/-- An admitted context has left PROBATION (R37). -/
theorem admitted_left (s : State) (plan : Fin 8) (cap : Nat) (policy : Policy) :
    (s.admitted c plan cap policy).state ≠ .probation := by
  unfold State.admitted
  dsimp only
  split <;> simp

end Context

theorem Rated.apply_handed (r : Rated) (c : Context) (active : Bool) (d : Nat) :
    (r.apply c active d).handed = c.handed := by
  unfold Rated.apply
  dsimp only
  repeat' split
  all_goals simp

namespace State.TellsQueues

variable {s t : State} {h : Handle} {c : Context}

/-- A record that keeps whether it was handed. -/
theorem of_handed (same : c.handed = (s.ctx h).handed) : s.TellsQueues (s.commit h c) :=
  .commit fun _ _ unhanded => same ▸ unhanded

/-- A record that is not in PROBATION. -/
theorem of_left (left : c.state ≠ .probation) : s.TellsQueues (s.commit h c) :=
  .commit fun _ probing => absurd probing left

theorem retireContext (s : State) (h : Handle) : s.TellsQueues (s.retireContext h) := by
  unfold State.retireContext
  split
  · exact of_left (by decide)
  · exact of_left (by simp [Context.toLinger])

end State.TellsQueues

/-! ## The rules that write a context -/

section Rules

variable (q : Option Request) (b : List Byte) (s : State)

open State

theorem attachRule_tells : s.TellsQueues (attachRule q b s).1 := by
  unfold attachRule
  repeat' split
  · exact .of_handed (by simp)
  · exact .refl s
  · exact .refl s
  · rename_i found
    exact .commit fun before => by simp [lowestFree_free found] at before
  · exact .refl s

theorem openBearerRule_tells : s.TellsQueues (openBearerRule q b s).1 := by
  unfold openBearerRule
  repeat' split
  · exact .refl s
  · exact .of_handed (Context.openBearer_handed _ _ _)
  · exact .refl s

theorem closeBearerRule_tells : s.TellsQueues (closeBearerRule q b s).1 := by
  unfold closeBearerRule
  dsimp only
  repeat' split
  case isFalse => exact .of_handed (Context.closeBearer_handed _ _ _)
  all_goals exact .refl s

theorem detachRule_tells : s.TellsQueues (detachRule q b s).1 := by
  unfold detachRule
  repeat' split
  · exact .refl s
  · exact (TellsQueues.retireContext s _).raise _ _
  · exact .refl s

theorem retireRule_tells : s.TellsQueues (retireRule q b s).1 := by
  unfold retireRule
  repeat' split
  case isFalse.isFalse => exact .retireContext s _
  all_goals exact .refl s

theorem admitContextRule_tells : s.TellsQueues (admitContextRule q b s).1 := by
  unfold admitContextRule
  repeat' split
  case isFalse.isFalse => exact .of_left (Context.admitted_left _ _ _ _ _)
  all_goals exact .refl s

theorem refuseRule_tells : s.TellsQueues (refuseRule q b s).1 := by
  unfold refuseRule
  repeat' split
  case isFalse.isFalse => exact .of_left (by decide)
  all_goals exact .refl s

/-- NEXT_PROBATION hands an entry, and makes none unhanded (R34). -/
theorem nextProbationRule_tells : s.TellsQueues (nextProbationRule q b s).1 := by
  unfold nextProbationRule
  repeat' split
  · exact .refl s
  · exact .commit fun _ _ unhanded => by simp at unhanded
  · exact .refl s

theorem settleContextRule_tells : s.TellsQueues (settleContextRule q b s).1 := by
  unfold settleContextRule
  repeat' split
  · exact .refl s
  · exact .of_left (by decide)
  all_goals exact .refl s

theorem addAllowanceRule_tells : s.TellsQueues (addAllowanceRule q b s).1 := by
  unfold addAllowanceRule
  dsimp only
  repeat' split
  case isFalse => exact .of_handed (Context.addedFlags_handed _ _)
  case isFalse => exact .of_handed (Context.addedFlags_handed _ _)
  all_goals exact .refl s

theorem removeAllowanceRule_tells : s.TellsQueues (removeAllowanceRule q b s).1 := by
  unfold removeAllowanceRule
  dsimp only
  repeat' split
  · exact .refl s
  · exact .refl s
  · exact .of_handed rfl
  · exact .refl s

theorem setCapRule_tells : s.TellsQueues (setCapRule q b s).1 := by
  unfold setCapRule
  dsimp only
  repeat' split
  · exact .refl s
  · exact .of_handed (Context.setCap_handed _ _ _)
  · exact .refl s

theorem setPlanRule_tells : s.TellsQueues (setPlanRule q b s).1 := by
  unfold setPlanRule
  dsimp only
  repeat' split
  · exact .refl s
  · exact .of_handed rfl
  · exact .refl s

theorem tellReport_keepsFlags (h : Handle) (tags : List Byte) (met : Bool) :
    s.KeepsFlags (s.tellReport h tags met) := by
  rw [← Bool.decide_coe met, s.tellReport_eq]
  exact .of_or (BitVec.or_assoc _ _ _)

theorem reportUsageRule_tells : s.TellsQueues (reportUsageRule q b s).1 := by
  unfold reportUsageRule
  dsimp only
  split
  · split
    · exact .refl s
    · exact (TellsQueues.of_handed (Rated.apply_handed _ _ _ _)).trans
        (.of_keeps (tellReport_keepsFlags _ _ _ _) (tellReport_beside _ _ _ _).keepsStore)
  · exact .refl s

theorem clearVoyageRule_tells : s.TellsQueues (clearVoyageRule q b s).1 := by
  obtain refused | cleared := clearVoyageRule_cases q b s
  · rw [refused]
    exact .refl s
  · rw [cleared]
    exact .of_cleared (.clearVoyage s) (by rw [s.clearVoyage_eq]; rfl)

/-- A kind that touches a context tells the lifecycle queues. -/
theorem rule_tells_touching {k : Kind} {rule : Option Request → List Byte → State → State × Reply}
    (ruled : k.rule = some rule) (touches : k.touchesContext = true) : s.TellsQueues (rule q b s).1 := by
  cases k
  case attach => exact Option.some.inj ruled ▸ attachRule_tells q b s
  case openBearer => exact Option.some.inj ruled ▸ openBearerRule_tells q b s
  case closeBearer => exact Option.some.inj ruled ▸ closeBearerRule_tells q b s
  case detach => exact Option.some.inj ruled ▸ detachRule_tells q b s
  case retire => exact Option.some.inj ruled ▸ retireRule_tells q b s
  case admitContext => exact Option.some.inj ruled ▸ admitContextRule_tells q b s
  case refuse => exact Option.some.inj ruled ▸ refuseRule_tells q b s
  case nextProbation => exact Option.some.inj ruled ▸ nextProbationRule_tells q b s
  case settleContext => exact Option.some.inj ruled ▸ settleContextRule_tells q b s
  case addAllowance => exact Option.some.inj ruled ▸ addAllowanceRule_tells q b s
  case removeAllowance => exact Option.some.inj ruled ▸ removeAllowanceRule_tells q b s
  case setCap => exact Option.some.inj ruled ▸ setCapRule_tells q b s
  case setPlan => exact Option.some.inj ruled ▸ setPlanRule_tells q b s
  case reportUsage => exact Option.some.inj ruled ▸ reportUsageRule_tells q b s
  case clearVoyage => exact Option.some.inj ruled ▸ clearVoyageRule_tells q b s
  case lookup | lookupHandle | nextSettlement =>
    obtain rfl := Option.some.inj ruled
    simp only [lookupRule, lookupHandleRule, nextSettlementRule]
    (repeat' split) <;> exact .refl s
  all_goals exact absurd touches (by decide)

/-! ## The rules beside the store -/

@[simp] theorem State.disableQueue_events (r : RequesterId) (queue : List Message) :
    (s.disableQueue r queue).events = s.events := by
  unfold State.disableQueue
  induction queue generalizing s with
  | nil => rfl
  | cons m rest ih => exact ih (s.send ⟨r, m.kind, m.tag, .disabled, []⟩)

@[simp] theorem State.startDwell_events (i : LinkId) : (s.startDwell i).events = s.events := by
  unfold State.startDwell
  dsimp only
  split <;> rfl

@[simp] theorem State.orderUnpark_events : s.orderUnpark.events = s.events := by
  unfold State.orderUnpark
  split <;> rfl

@[simp] theorem State.endHold_events : s.endHold.events = s.events := by rw [s.endHold_eq]

/-- The kinds that touch no context and whose rule may raise an event or write the Event Set. -/
def Kind.writesEvents (k : Kind) : Bool :=
  [Kind.setCeiling, .setEventMask, .ackEvents, .stageProfile, .enterZone, .configureLink, .probeResult, .closeLink,
    .abortShift].contains k

/-- Every other rule that touches no context leaves the events. -/
theorem rule_events {k : Kind} {rule : Option Request → List Byte → State → State × Reply}
    (ruled : k.rule = some rule) (untouched : k.touchesContext = false) (leaves : k.writesEvents = false) :
    (rule q b s).1.events = s.events := by
  cases k
  case holdStore => cases ruled
  all_goals obtain rfl := Option.some.inj ruled
  case openProfile | writeProfileHeader | writeTariffRow | writeCandidates | readProfile | discardProfile | openLink
      | setRoute | clearRoute | readRoute | shift | releaseStore | configureRequester | readEvents | setLimits
      | readStatus =>
    simp only [openProfileRule, writeProfileHeaderRule, writeTariffRowRule, writeCandidatesRule, readProfileRule,
      discardProfileRule, openLinkRule, setRouteRule, clearRouteRule, readRouteRule, shiftRule, releaseStoreRule,
      configureRequesterRule, readEventsRule, setLimitsRule, readStatusRule]
    (repeat' split) <;> simp [State.order]
  case start =>
    unfold startRule
    (repeat' split) <;> simp [slotIds]
  case setCeiling | setEventMask | ackEvents | stageProfile | enterZone | configureLink | probeResult | closeLink
      | abortShift => exact absurd leaves (by decide)
  all_goals exact absurd untouched (by decide)

/-- ACK_EVENTS clears no event numbered 13 to 16 (R191, R193). -/
theorem ackEventsRule_keepsFlags : s.KeepsFlags (ackEventsRule q b s).1 := by
  unfold ackEventsRule
  split
  · intro e standing before
    have bound : e.num < 17 := by cases e <;> decide
    have kept : (8191#17).getLsbD e.num = false := by revert standing; cases e <;> decide
    simp only [State.isPending] at before
    simp only [State.isPending, EventSet.acknowledge, EventSet.acknowledged_eq, BitVec.getLsbD_and, BitVec.getLsbD_not,
      before, kept, bound, decide_true, Bool.and_false, Bool.not_false, Bool.and_true]
  · exact .refl s

end Rules

/-! ## The zones (R115, R191) -/

/-- PROFILE_MISSING is pending where the present zone is not the LIVE zone. -/
def State.MissingTold (s : State) : Prop :=
  s.bank.presentZone ≠ s.live.zone → s.isPending .profileMissing = true

theorem State.live_of_role {s : State} (inv : BankInv s.bank) {i : ProfileId}
    (live : (s.bank.slots.get i).role = .live) : s.live = s.bank.slots.get i := by
  obtain ⟨l, first, -, profile⟩ := State.live_eq inv
  rw [profile, inv.holder (by decide) first live]

/-- The slot promoted becomes LIVE as it is (R111, R113, R114). -/
theorem State.exchangeRoles_live {s : State} (inv : BankInv s.bank) {i : ProfileId}
    (named : (s.bank.slots.get i).role = .staged ∨ (s.bank.slots.get i).role = .grace) :
    (s.exchangeRoles i).live = { s.bank.slots.get i with role := .live } := by
  obtain ⟨l, live, -⟩ := State.live_eq inv
  have other : i ≠ l := (Bank.live_ne live named).symm
  have slot : (s.exchangeRoles i).bank.slots.get i = { s.bank.slots.get i with role := .live } := by
    by_cases due : min (s.clock + (s.bank.slots.get i).graceWindow) Config.maxClock ≤ s.clock
    · rw [State.exchangeRoles_due inv named live rfl due]
      simp [Four.get_set, other, Bank.exchanged]
    · rw [State.exchangeRoles_running inv named rfl due]
      simp [Bank.exchanged]
  rw [State.live_of_role (inv.exchangeRoles named) (by rw [slot]), slot]

namespace State.MissingTold

variable {s t : State}

theorem of_same (told : s.MissingTold) (flags : s.KeepsFlags t) (zone : t.bank.presentZone = s.bank.presentZone)
    (live : t.live = s.live) : t.MissingTold := fun away => by
  rw [zone, live] at away
  exact flags _ (by decide) (told away)

theorem of_bank (told : s.MissingTold) (flags : s.KeepsFlags t) (bank : t.bank = s.bank) : t.MissingTold :=
  told.of_same flags (by rw [bank]) (by simp only [State.live, State.liveSlot, State.slotIn, bank])

/-- A profile slot that is not LIVE replaced by one that is not. -/
theorem setSlot (told : s.MissingTold) (bank : BankInv s.bank) {i : ProfileId} {p : ProfileSlot}
    (unlive : (s.bank.slots.get i).role ≠ .live) (role : p.role ≠ .live) : (s.setSlot i p).MissingTold := by
  refine told.of_same (.of_events rfl) rfl (State.live_eq_of_bank bank (fun j live => ?_) fun j held => ?_) <;>
    rw [State.setSlot_bank, Four.get_set]
  · exact if_neg fun here : j = i => unlive (here ▸ live)
  · split
    · exact role
    · exact held

/-- The OPEN slot written, its role kept. -/
theorem write (told : s.MissingTold) (bank : BankInv s.bank) {i : ProfileId} (found : s.slotIn .opened = some i)
    {p : ProfileSlot} (role : p.role = (s.bank.slots.get i).role) : (s.setSlot i p).MissingTold := by
  obtain ⟨opened, -⟩ := (s.slotIn_some .opened i).1 found
  exact told.setSlot bank (by simp [opened]) (by simp [role, opened])

theorem expireGrace (told : s.MissingTold) (bank : BankInv s.bank) : s.expireGrace.MissingTold := by
  unfold State.expireGrace
  split
  · rename_i i found
    obtain ⟨grace, -⟩ := (s.slotIn_some .grace i).1 found
    have freed : (s.setSlot i (.cleared .free)).MissingTold := told.setSlot bank (by simp [grace]) (by decide)
    exact freed.of_same (.of_or rfl) rfl rfl
  · exact told

theorem stage (told : s.MissingTold) (bank : BankInv s.bank) {i : ProfileId}
    (opened : (s.bank.slots.get i).role = .opened) : (s.stage i).MissingTold := by
  rw [State.stage_eq bank opened]
  have free : (ProfileSlot.cleared .free).role = .free := rfl
  refine told.of_same (.of_events rfl) rfl (State.live_eq_of_bank bank (fun j live => ?_) fun j held => ?_) <;>
    simp only [Bank.stage_get, Bank.stagedSlot]
  · have distinct : j ≠ i := fun same => by simp [same, opened] at live
    simp [distinct, live]
  · grind

/-- A promotion to the present zone. -/
theorem promote (bank : BankInv s.bank) {i : ProfileId}
    (named : (s.bank.slots.get i).role = .staged ∨ (s.bank.slots.get i).role = .grace)
    (present : s.bank.presentZone = (s.bank.slots.get i).zone) : (s.promote i).MissingTold := fun away => by
  have live : (s.promote i).live = (s.exchangeRoles i).live := by
    simp only [State.live, State.liveSlot, State.slotIn, State.promote, State.handOver_bank]
  rw [State.promote_presentZone bank named, live, State.exchangeRoles_live bank named] at away
  exact absurd present away

end State.MissingTold

/-- ENTER_ZONE makes the zone's profile LIVE, or raises PROFILE_MISSING where no slot holds one (R112 to R115). -/
theorem State.enterZone_tells {s : State} (inv : BankInv s.bank) (zone : Nat) :
    s.KeepsFlags (s.enterZone zone) ∧ (s.enterZone zone).MissingTold := by
  have entered : s.KeepsFlags { s with bank := { s.bank with presentZone := zone } } := .of_events rfl
  have inv' := inv.presentZone zone
  have promoted {i : ProfileId} (named : (s.bank.slots.get i).role = .staged ∨ (s.bank.slots.get i).role = .grace)
      (at_zone : (s.bank.slots.get i).zone = zone)
      (taken : s.entryCase zone = (.staged, some i) ∨ s.entryCase zone = (.returned, some i)) :
      s.KeepsFlags (s.enterZone zone) ∧ (s.enterZone zone).MissingTold := by
    rw [State.enterZone_promotes taken]
    exact ⟨entered.trans (.promote inv' named), .promote inv' named at_zone.symm⟩
  by_cases present : zone = s.live.zone
  · rw [State.enterZone_unchanged (State.entryCase_live present)]
    exact ⟨entered, fun away => absurd present away⟩
  by_cases known : ∃ i, ((s.bank.slots.get i).role = .staged ∨ (s.bank.slots.get i).role = .grace)
      ∧ (s.bank.slots.get i).zone = zone
  · obtain ⟨i, staged | grace, at_zone⟩ := known
    · exact promoted (.inl staged) at_zone (.inl (at_zone ▸ State.entryCase_of_staged inv staged))
    · exact promoted (.inr grace) at_zone (.inr (at_zone ▸ State.entryCase_of_grace inv grace))
  · rw [State.enterZone_missing (State.entryCase_unplanned inv present fun i named at_zone =>
      known ⟨i, named, at_zone⟩)]
    exact ⟨entered.raise _ _, fun _ => by simp [State.raiseMissing, State.raise_isPending]⟩

section Rules

variable {s : State} (q : Option Request) (b : List Byte)

/-- STAGE_PROFILE makes a profile of the present zone LIVE at once (R111). -/
theorem stageProfileRule_tells (inv : BankInv s.bank) (told : s.MissingTold) :
    s.KeepsFlags (stageProfileRule q b s).1 ∧ (stageProfileRule q b s).1.MissingTold := by
  unfold stageProfileRule
  split
  · split
    · exact ⟨.refl s, told⟩
    · rename_i i found
      obtain ⟨opened, -⟩ := (s.slotIn_some .opened i).1 found
      dsimp only
      split
      · exact ⟨.refl s, told⟩
      · rename_i faultless
        obtain ⟨-, other, written⟩ := (s.stagingFaults_zero _).1 (not_not.1 faultless)
        have bank : BankInv (s.stage i).bank := by
          rw [State.stage_eq inv opened]
          exact inv.stage opened written fun j live => State.live_of_role inv live ▸ other.symm
        have flags : s.KeepsFlags (s.stage i) := .of_events (by rw [State.stage_eq inv opened])
        have slot : (s.stage i).bank.slots.get i = { s.bank.slots.get i with role := .staged } := by
          rw [State.stage_eq inv opened]
          simp [Bank.stagedSlot]
        have zone : (s.stage i).bank.presentZone = s.bank.presentZone := by
          rw [State.stage_eq inv opened]
          rfl
        split
        · rename_i present
          have named : ((s.stage i).bank.slots.get i).role = .staged := by rw [slot]
          exact ⟨flags.trans (.promote bank (.inl named)),
            .promote bank (.inl named) (by rw [zone, slot]; exact (of_decide_eq_true present).symm)⟩
        · exact ⟨flags, told.stage inv opened⟩
  · exact ⟨.refl s, told⟩

theorem enterZoneRule_tells (inv : BankInv s.bank) (told : s.MissingTold) :
    s.KeepsFlags (enterZoneRule q b s).1 ∧ (enterZoneRule q b s).1.MissingTold := by
  unfold enterZoneRule
  split
  · exact State.enterZone_tells inv _
  · exact ⟨.refl s, told⟩

theorem setCeilingRule_keepsFlags (s : State) : s.KeepsFlags (setCeilingRule q b s).1 := by
  have set (c : Permit) : s.KeepsFlags { s with coverage := { s.coverage with ceiling := c } } := .of_events rfl
  unfold setCeilingRule
  repeat' split
  · exact .refl s
  · exact (set _).trans (.recompute _)
  · exact .refl s

theorem configureLinkRule_keepsFlags (s : State) : s.KeepsFlags (configureLinkRule q b s).1 := by
  unfold configureLinkRule
  split
  · exact (State.KeepsFlags.linkClosed s).configureSlot _ _ (.refl s)
  · exact .refl s

theorem probeResultRule_keepsFlags (s : State) : s.KeepsFlags (probeResultRule q b s).1 := by
  unfold probeResultRule
  split
  · split
    · exact .refl s
    · exact (State.KeepsFlags.linkClosed s).probe _ _ _ _ (.refl s)
  · split <;> exact .refl s

theorem closeLinkRule_keepsFlags (s : State) : s.KeepsFlags (closeLinkRule q b s).1 := by
  unfold closeLinkRule
  repeat' split
  · exact .refl s
  · exact (State.KeepsFlags.linkClosed s).demote _ (.refl s)
  · exact .refl s

theorem abortShiftRule_keepsFlags (s : State) : s.KeepsFlags (abortShiftRule q b s).1 := by
  unfold abortShiftRule
  repeat' split
  · exact .refl s
  · exact (State.KeepsFlags.refl s).dropShift
  · exact .refl s

theorem setEventMaskRule_keepsFlags (s : State) : s.KeepsFlags (setEventMaskRule q b s).1 := by
  unfold setEventMaskRule
  split
  · exact .of_pending rfl
  · exact .refl s

variable {k : Kind} {rule : Option Request → List Byte → State → State × Reply}

/-- A kind that touches no context leaves the store and takes down no flag. -/
theorem rule_tells_beside (ruled : k.rule = some rule) (untouched : k.touchesContext = false) (inv : BankInv s.bank)
    (told : s.MissingTold) : s.TellsQueues (rule q b s).1 := by
  have store : s.KeepsStore (rule q b s).1 := by
    cases controls : k.controls with
    | true => exact (rule_controls ruled controls q b s).1
    | false => exact (rule_beside ruled untouched controls q b s).keepsStore
  refine .of_keeps ?_ store
  cases writes : k.writesEvents with
  | false => exact .of_events (rule_events q b s ruled untouched writes)
  | true =>
    cases k
    case setCeiling => exact Option.some.inj ruled ▸ setCeilingRule_keepsFlags q b s
    case setEventMask => exact Option.some.inj ruled ▸ setEventMaskRule_keepsFlags q b s
    case ackEvents => exact Option.some.inj ruled ▸ ackEventsRule_keepsFlags q b s
    case stageProfile => exact Option.some.inj ruled ▸ (stageProfileRule_tells q b inv told).1
    case enterZone => exact Option.some.inj ruled ▸ (enterZoneRule_tells q b inv told).1
    case configureLink => exact Option.some.inj ruled ▸ configureLinkRule_keepsFlags q b s
    case probeResult => exact Option.some.inj ruled ▸ probeResultRule_keepsFlags q b s
    case closeLink => exact Option.some.inj ruled ▸ closeLinkRule_keepsFlags q b s
    case abortShift => exact Option.some.inj ruled ▸ abortShiftRule_keepsFlags q b s
    all_goals exact absurd writes (by decide)

theorem openProfileRule_missingTold (inv : BankInv s.bank) (told : s.MissingTold) :
    (openProfileRule q b s).1.MissingTold := by
  unfold openProfileRule
  repeat' split
  · exact told
  · rename_i i found
    obtain ⟨free, -⟩ := (s.slotIn_some .free i).1 found
    exact told.setSlot inv (by simp [free]) (by decide)
  · exact told
  · exact told

/-- The three writes of the OPEN slot keep its role (R104 to R106). -/
theorem profileWrites_missingTold (inv : BankInv s.bank) (told : s.MissingTold) :
    (writeProfileHeaderRule q b s).1.MissingTold ∧ (writeTariffRowRule q b s).1.MissingTold
      ∧ (writeCandidatesRule q b s).1.MissingTold := by
  refine ⟨?_, ?_, ?_⟩
  · unfold writeProfileHeaderRule
    repeat' split
    · exact told
    · exact told.write inv (by assumption) rfl
    · exact told
  · unfold writeTariffRowRule
    repeat' split
    · exact told
    · exact told
    · exact told.write inv (by assumption) rfl
    · exact told
  · unfold writeCandidatesRule
    repeat' split
    · exact told
    · exact told.write inv (by assumption) rfl
    · exact told

theorem discardProfileRule_missingTold (inv : BankInv s.bank) (told : s.MissingTold) :
    (discardProfileRule q b s).1.MissingTold := by
  have freed {i : ProfileId} (unlive : (s.bank.slots.get i).role ≠ .live) : (s.freeSlot i).MissingTold :=
    told.setSlot inv unlive (by decide)
  unfold discardProfileRule
  repeat' split
  · exact freed (by simp [*])
  · exact freed (by simp [*])
  all_goals exact told

/-- Every rule that takes down no flag keeps PROFILE_MISSING pending while the present zone is not the LIVE zone. -/
theorem rule_missingTold (ruled : k.rule = some rule) (inv : BankInv s.bank) (told : s.MissingTold)
    (flags : s.KeepsFlags (rule q b s).1) : (rule q b s).1.MissingTold := by
  cases writes : k.writesProfiles with
  | false => exact told.of_bank flags (congrArg Prod.fst (rule_profiles ruled writes q b s))
  | true =>
    have linked (leaves : k.writesLinkage = false) : (rule q b s).1.MissingTold :=
      told.of_bank flags (congrArg (·.2.1) (rule_linkage ruled leaves q b s))
    obtain ⟨header, row, candidates⟩ := profileWrites_missingTold q b inv told
    cases k
    case openProfile => exact Option.some.inj ruled ▸ openProfileRule_missingTold q b inv told
    case writeProfileHeader => exact Option.some.inj ruled ▸ header
    case writeTariffRow => exact Option.some.inj ruled ▸ row
    case writeCandidates => exact Option.some.inj ruled ▸ candidates
    case discardProfile => exact Option.some.inj ruled ▸ discardProfileRule_missingTold q b inv told
    case stageProfile => exact Option.some.inj ruled ▸ (stageProfileRule_tells q b inv told).2
    case enterZone => exact Option.some.inj ruled ▸ (enterZoneRule_tells q b inv told).2
    case setCeiling | clearVoyage => exact linked rfl
    all_goals exact absurd writes (by decide)

end Rules

end Sys2Proof.Machine
end

section
/-! The attention line and the condition-cleared events under every step (O60). -/

namespace Sys2Proof.Machine

/-! ## The walk steps and the sweep's visit -/

namespace State

variable (s : State) (h : Handle)

theorem visit_tells : s.TellsQueues (s.visit h) := by
  unfold State.visit
  dsimp only
  split
  · exact .refl s
  · split
    · exact .refl s
    · exact .refl s
    · exact (TellsQueues.of_left (by decide)).raise _ _
    · exact (TellsQueues.of_left (by simp [Context.toLinger])).raise _ _
    · exact (TellsQueues.of_left (by simp [Context.toLinger])).raise _ _
    · split
      · exact .of_handed rfl
      · exact .refl s

/-- A context bound to another slot stays handed or not (R165, R170). -/
theorem reroute_tells (i : LinkId) : s.TellsQueues (s.commit h { s.ctx h with route := some i }) := .of_handed rfl

theorem failoverWork_tells : s.TellsQueues (s.failoverWork h) := by
  unfold State.failoverWork
  dsimp only
  split
  · split
    · split
      · exact s.reroute_tells h _
      · exact (TellsQueues.of_left (c := (s.ctx h).park _) (by simp [Context.park])).trans
          (.of_keeps (.of_events rfl) ⟨rfl, rfl⟩)
    · exact .refl s
  all_goals exact .refl s

theorem unparkWork_tells : s.TellsQueues (s.unparkWork h) := by
  unfold State.unparkWork
  dsimp only
  repeat' split
  · exact .of_handed (Context.restore_handed _ _ _)
  · exact .refl s
  · exact .refl s

theorem shiftWork_tells : s.TellsQueues (s.shiftWork h) := by
  unfold State.shiftWork
  dsimp only
  repeat' split
  · exact .refl s
  · exact (s.reroute_tells h _).trans (.of_keeps (.of_events rfl) ⟨rfl, rfl⟩)
  · exact .refl s

theorem darkWork_tells : s.TellsQueues (s.darkWork h) := by
  unfold State.darkWork
  split
  case h_1 | h_2 => exact .of_handed (by simp)
  all_goals exact .refl s

theorem work_tells (k : WalkKind) : s.TellsQueues (k.work h s) := by
  cases k
  · exact s.failoverWork_tells h
  · exact s.shiftWork_tells h
  · exact s.unparkWork_tells h
  · exact s.darkWork_tells h

theorem walked_tells (w : Walk) : s.TellsQueues (s.walked w) := by
  have work := s.work_tells w.cursor w.kind
  unfold State.walked
  dsimp only
  split
  · exact work.trans (.of_keeps (.complete _ _) (complete_beside _ _).keepsStore)
  · exact work.trans (.of_keeps (.of_events rfl) ⟨rfl, rfl⟩)

end State

/-! ## What every event comes to its end with -/

/-- The flags of the condition-cleared events are pending where their conditions hold: with the clearing at the end of
an event, everything that `EventInv` says of them. -/
structure State.Flagged (s : State) : Prop where
  attach : ∀ h, (s.ctx h).state = .probation → (s.ctx h).handed = false → s.isPending .attachWaiting = true
  settle : ∀ h, (s.ctx h).state = .linger → s.isPending .settleWaiting = true
  missing : s.MissingTold

namespace State.Flagged

variable {s t : State}

theorem of_tells (flagged : s.Flagged) (tells : s.TellsQueues t) (missing : t.MissingTold) : t.Flagged where
  attach h probing unhanded := by
    obtain told | ⟨probing, unhanded⟩ := tells.attach h probing unhanded
    · exact told
    · exact tells.flags _ (by decide) (flagged.attach h probing unhanded)
  settle h lingering := by
    obtain told | lingering := tells.settle h lingering
    · exact told
    · exact tells.flags _ (by decide) (flagged.settle h lingering)
  missing := missing

theorem of_bank (flagged : s.Flagged) (tells : s.TellsQueues t) (bank : t.bank = s.bank) : t.Flagged :=
  flagged.of_tells tells (flagged.missing.of_bank tells.flags bank)

/-- A change beside the store and the profiles that takes down no flag. -/
theorem of_keeps (flagged : s.Flagged) (flags : s.KeepsFlags t) (store : s.KeepsStore t) (bank : t.bank = s.bank) :
    t.Flagged :=
  flagged.of_bank (.of_keeps flags store) bank

theorem rule (flagged : s.Flagged) (inv : BankInv s.bank) {k : Kind}
    {rule : Option Request → List Byte → State → State × Reply} (ruled : k.rule = some rule) (q : Option Request)
    (b : List Byte) : (rule q b s).1.Flagged := by
  have tells : s.TellsQueues (rule q b s).1 := by
    cases touches : k.touchesContext with
    | true => exact rule_tells_touching q b s ruled touches
    | false => exact rule_tells_beside q b ruled touches inv flagged.missing
  exact flagged.of_tells tells (rule_missingTold q b ruled inv flagged.missing tells.flags)

end State.Flagged

/-- A store in which the queues are as its contexts say, and the flags as `EventInv` says. -/
theorem EventInv.flagged {s : State} (inv : EventInv s) (store : StoreInv s) : s.Flagged where
  attach h probing unhanded := inv.attachWaiting.2 ⟨h, (store.probation h).2 probing, unhanded⟩
  settle h lingering := inv.settleWaiting.2 (List.ne_nil_of_mem ((store.settlement h).2 lingering))
  missing := inv.profileMissing.2

/-! ## The clearing conditions (R191) -/

namespace State

variable (s : State)

theorem clears_attachWaiting :
    s.clears .attachWaiting = false ↔ ∃ h ∈ s.store.probation, (s.ctx h).handed = false := by
  simp [clears, firstUnhanded]

theorem clears_settleWaiting : s.clears .settleWaiting = false ↔ s.store.settlement ≠ [] := decide_eq_false_iff_not

theorem clears_profileMissing : s.clears .profileMissing = false ↔ s.bank.presentZone ≠ s.live.zone :=
  decide_eq_false_iff_not

theorem clears_backhaulLost : s.clears .backhaulLost = false ↔ ∀ i, (s.link i).state ≠ .carry := s.anyCarry_false

/-- An event is pending behind the end of an event where it was and its clearing condition does not hold. -/
theorem pending_conclude (e : Event) :
    s.conclude.isPending e = true ↔ s.isPending e = true ∧ s.clears e = false := by
  simp [conclude_isPending]

end State

/-- The end of an event lets the condition-cleared events and the line follow their conditions (R191, R194). -/
theorem EventInv.conclude {s : State} (flagged : s.Flagged) (store : StoreInv s) : EventInv s.conclude := by
  have keeps := s.conclude_keepsStore
  have bank : s.conclude.bank = s.bank := by rw [s.conclude_frame]
  have live : s.conclude.live = s.live := by simp only [State.live, State.liveSlot, State.slotIn, bank]
  have link : s.conclude.link = s.link := by rw [s.conclude_frame]; rfl
  have line := s.conclude_attention
  have pending {e : Event} {holds : Prop} (clears : s.clears e = false ↔ holds)
      (told : holds → s.isPending e = true) : s.conclude.isPending e = true ↔ holds :=
    (s.pending_conclude e).trans ⟨fun h => clears.1 h.2, fun h => ⟨told h, clears.2 h⟩⟩
  constructor
  case active => exact line.1
  case inactive => exact fun calls => .inl (line.2 calls)
  case attachWaiting =>
    simp only [keeps.store, keeps.ctx]
    exact pending s.clears_attachWaiting fun ⟨h, waits, unhanded⟩ =>
      flagged.attach h ((store.probation h).1 waits) unhanded
  case settleWaiting =>
    rw [keeps.store]
    refine pending s.clears_settleWaiting fun waits => ?_
    obtain ⟨h, waits⟩ := List.exists_mem_of_ne_nil _ waits
    exact flagged.settle h ((store.settlement h).1 waits)
  case profileMissing =>
    rw [bank, live]
    exact pending s.clears_profileMissing flagged.missing
  case backhaulLost =>
    rw [link]
    exact fun lost => s.clears_backhaulLost.1 ((s.pending_conclude .backhaulLost).1 lost).2

/-! ## Commands -/

/-- What a step is to the events: the end of an event, to which the flags come as their conditions say; no change to
anything that `EventInv` reads but the quiet time left; or a reset. -/
inductive State.Follows (s : State) : State → Prop where
  | concluded {u : State} (flagged : u.Flagged) : Follows s u.conclude
  | still {t : State} (store : s.KeepsStore t) (bank : t.bank = s.bank)
      (links : ∀ i, (t.link i).state = (s.link i).state) (sent : t.port.sent = s.port.sent)
      (events : t.events = { s.events with quiet := t.events.quiet })
      (quiet : t.events.quiet.isSome = s.events.quiet.isSome) : Follows s t
  | reset (asserted : Bool) (settle : Nat) : Follows s (s.initialized asserted settle)

theorem State.Follows.refl (s : State) : s.Follows s := .still (.refl s) rfl (fun _ => rfl) rfl rfl rfl

namespace State.Flagged

variable {s t : State}

/-- The end of a service is the end of an event. -/
theorem finish (flagged : s.Flagged) (r : RequesterId) (m : Message) (reply : Reply) :
    t.Follows (s.finish r m reply) := by
  rw [s.finish_eq]
  refine .concluded (flagged.of_keeps ?_ ⟨rfl, ?_⟩ rfl)
  · by_cases due : s.ExpiryDue
    · exact .of_or (flags := 4096#17) (by simp [due])
    · exact .of_pending (by simp [due])
  · dsimp only
    repeat' split
    · exact Migration.next_parkedTotal _ _
    · rfl
    · rfl

theorem answerHold (flagged : s.Flagged) : t.Follows s.answerHold := by
  unfold State.answerHold
  repeat' split
  · exact flagged.finish _ _ _
  all_goals exact .concluded flagged

theorem serve (flagged : s.Flagged) (inv : BankInv s.bank) {k : Kind}
    {rule : Option Request → List Byte → State → State × Reply} (ruled : k.rule = some rule) :
    s.Follows (s.serve k rule) := by
  obtain ⟨h, -⟩ | ⟨r, m, -, -, ⟨status, -, h⟩ | ⟨-, h⟩⟩ := s.serve_cases k rule <;> rw [h]
  · exact .refl s
  · exact flagged.finish _ _ _
  · exact (flagged.rule inv ruled _ _).finish _ _ _

/-- Every command but ACK_EVENTS. -/
theorem taken (flagged : s.Flagged) (inv : BankInv s.bank) {c : Instr} (other : c ≠ .ackEvents)
    (taken : s.Taken c t) : s.Follows t := by
  have beside {u : State} (flags : s.KeepsFlags u) (beside : s.Beside u) (bank : u.bank = s.bank) :
      s.Follows u.conclude := .concluded (flagged.of_keeps flags beside.keepsStore bank)
  have links := KeepsFlags.linkClosed s
  cases taken with
  | reset asserted settle => exact .reset asserted settle
  | skipped => exact .refl s
  | answered reply => exact flagged.finish _ _ _
  | ruled ruled => exact (flagged.rule inv ruled _ _).finish _ _ _
  | lineInactive => exact absurd rfl other
  | holdRequested => exact .concluded (flagged.of_keeps (.of_events rfl) ⟨rfl, rfl⟩ rfl)
  | holdGranted => exact answerHold (flagged.of_keeps (.of_events rfl) ⟨rfl, rfl⟩ rfl)
  | holdExpiring => exact .still ⟨rfl, rfl⟩ rfl (fun _ => rfl) rfl rfl rfl
  | holdExpired =>
    have flags : s.KeepsFlags s.revokeHold := (KeepsFlags.of_events s.endHold_events).raise _ _
    exact .concluded (flagged.of_keeps flags s.revokeHold_keepsStore (congrArg Prod.fst s.revokeHold_profiles))
  | clocked => exact .concluded (flagged.of_keeps (.of_events rfl) ⟨rfl, rfl⟩ rfl)
  | visited =>
    have visited := flagged.of_bank (s.visit_tells s.sweep.cursor) (congrArg Prod.fst (s.visit_profiles _))
    exact .concluded (visited.of_keeps (.of_events rfl) ⟨rfl, rfl⟩ rfl)
  | @walked w =>
    have walked := flagged.of_bank (s.walked_tells w) (congrArg (·.2.1) (s.walked_linkage w))
    exact .concluded (walked.of_keeps (.of_events rfl) ⟨rfl, rfl⟩ rfl)
  | @arrived _ _ r m =>
    have events : (s.arrive r m).events = s.events := by
      unfold State.arrive
      dsimp only
      (repeat' split) <;> rfl
    exact .concluded (flagged.of_keeps (.of_events events) (s.arrive_keepsStore r m)
      (congrArg Prod.fst (s.arrive_profiles r m)))
  | graceEnded =>
    exact .concluded (flagged.of_tells (.of_keeps (.expireGrace s) s.expireGrace_beside.keepsStore)
      (flagged.missing.expireGrace inv))
  | dwellEnded => exact beside (.of_events rfl) (s.setLink_beside _ _) rfl
  | trackLost =>
    exact beside (links.raise _ _ (links.setLink _ _ (.refl s))) ((s.setLink_beside _ _).trans (raise_beside _ _ _)) rfl
  | carryLapsed =>
    exact beside (links.raise _ _ (links.demote _ (.refl s))) ((s.demote_beside _).trans (raise_beside _ _ _))
      (congrArg Prod.fst (s.demote_profiles _))
  | quietEnded => exact .concluded (flagged.of_keeps (.of_pending rfl) ⟨rfl, rfl⟩ rfl)
  | released => exact .still ⟨rfl, rfl⟩ rfl (fun _ => rfl) rfl rfl rfl

end State.Flagged

/-- An attention service is ended by an ACK_EVENTS in service whose end flag is set. -/
theorem State.serves_of_endsService {s : State} (ends : s.endsService = true) :
    ∃ r m set, s.Serves r m (.ackEvents set true) := by
  unfold State.endsService at ends
  split at ends
  · cases ends
  · rename_i r m served
    simp only [Bool.and_eq_true, decide_eq_true_eq, Option.isNone_iff_eq_none] at ends
    obtain ⟨⟨kind, passes⟩, ends⟩ := ends
    split at ends
    · rename_i set endService read
      subst ends
      exact ⟨r, m, set, served, passes, Kind.ofCode_eq_some.1 kind, read⟩
    · cases ends

/-! ## The invariant -/

namespace EventInv

variable {s t : State}

/-- A change of nothing that the events are about but the quiet time left. -/
theorem still (inv : EventInv s) (store : s.KeepsStore t) (bank : t.bank = s.bank)
    (links : ∀ i, (t.link i).state = (s.link i).state) (sent : t.port.sent = s.port.sent)
    (pending : t.events.pendingSet = s.events.pendingSet) (calls : t.events.calls ↔ s.events.calls)
    (attention : t.events.attention = s.events.attention) : EventInv t := by
  have live : t.live = s.live := by simp only [State.live, State.liveSlot, State.slotIn, bank]
  have flags (e : Event) : t.isPending e = s.isPending e := by rw [State.isPending, pending, State.isPending]
  constructor
  case active => rw [attention, calls]; exact inv.active
  case inactive => rw [attention, calls, State.lastAcked, sent]; exact inv.inactive
  case attachWaiting => simpa only [flags, store.store, store.ctx] using inv.attachWaiting
  case settleWaiting => simpa only [flags, store.store] using inv.settleWaiting
  case profileMissing => simpa only [flags, bank, live] using inv.profileMissing
  case backhaulLost => simpa only [flags, links] using inv.backhaulLost

theorem reset (asserted : Bool) (settle : Nat) : EventInv (s.initialized asserted settle) := by
  have none (e : Event) : ¬State.reset.isPending e = true := by cases e <;> decide
  have silent : ¬State.reset.events.calls := by decide
  constructor
  case active => exact fun active => by cases active
  case inactive => exact fun calls => absurd calls silent
  case attachWaiting => exact iff_of_false (none _) fun ⟨_, waits, _⟩ => List.not_mem_nil waits
  case settleWaiting => exact iff_of_false (none _) (not_not.2 rfl)
  case profileMissing => exact iff_of_false (none _) (not_not.2 rfl)
  case backhaulLost => exact fun lost => absurd lost (none _)

end EventInv

/-- The line is as its condition says (R194). -/
abbrev EventSet.lineFollows (e : EventSet) : Prop := e.attention = true ↔ e.calls

/-- The line is not as its condition says, and stays so: flags, mask, line and the running of the quiet timer are as
they were. -/
abbrev EventSet.lineStands (before after : EventSet) : Prop :=
  ¬before.lineFollows ∧ after.attention = before.attention ∧ after.pendingSet = before.pendingSet
    ∧ after.mask = before.mask ∧ after.quiet.isSome = before.quiet.isSome

/-- A step keeps the invariant, and the line follows its condition or stands. -/
theorem State.Follows.eventInv {s t : State} (follows : s.Follows t) (inv : EventInv s) (store : StoreInv t) :
    EventInv t ∧ (t.events.lineFollows ∨ s.events.lineStands t.events) := by
  cases follows with
  | @concluded u flagged =>
    have keeps := u.conclude_keepsStore
    exact ⟨.conclude flagged (store.of_keeps ⟨keeps.store.symm, keeps.parked.symm⟩), .inl u.conclude_attention⟩
  | still keeps bank links sent events quiet =>
    have pending : t.events.pendingSet = s.events.pendingSet := by rw [events]
    have mask : t.events.mask = s.events.mask := by rw [events]
    have attention : t.events.attention = s.events.attention := by rw [events]
    have stopped : t.events.quiet = none ↔ s.events.quiet = none := by
      rw [← Option.isNone_iff_eq_none, ← Option.isNone_iff_eq_none, ← Option.not_isSome, quiet, Option.not_isSome]
    have calls : t.events.calls ↔ s.events.calls := by simp only [EventSet.calls, stopped, pending, mask]
    refine ⟨inv.still keeps bank links sent pending calls attention, ?_⟩
    by_cases line : s.events.lineFollows
    · exact .inl (by rw [EventSet.lineFollows, attention, calls]; exact line)
    · exact .inr ⟨line, attention, pending, mask, quiet⟩
  | reset asserted settle =>
    have line : State.reset.events.lineFollows := by decide
    exact ⟨.reset asserted settle, .inl line⟩

/-! ## The end of an attention service (R193, R194) -/

/-- The end of a service leaves the quiet timer. -/
theorem State.finish_quiet (s : State) (r : RequesterId) (m : Message) (reply : Reply) :
    (s.finish r m reply).events.quiet = s.events.quiet := by
  rw [s.finish_eq, State.conclude_frame]

/-- Behind an answer OK to an ACK_EVENTS the line may be inactive against its condition. -/
theorem EventInv.lineInactive {s : State} (inv : EventInv s) (acked : s.lastAcked) : EventInv s.lineInactive where
  active := fun active => by cases active
  inactive := fun _ => .inr acked
  attachWaiting := inv.attachWaiting
  settleWaiting := inv.settleWaiting
  profileMissing := inv.profileMissing
  backhaulLost := inv.backhaulLost

/-- An ACK_EVENTS that ends an attention service: at a quiet time of 0 with the quiet timer stopped the line may be
inactive against its condition, and otherwise the quiet timer runs behind it (R194). -/
theorem EventInv.acked {s t : State} {r : RequesterId} {m : Message} {set : BitVec 17} (inv : EventInv s)
    (flagged : s.Flagged) (bank : BankInv s.bank) (serves : s.Serves r m (.ackEvents set true))
    (ran : exec .ackEvents s = .next t) (store : StoreInv t) : EventInv t
      ∧ (t.events.lineFollows ∨ s.events.lineStands t.events
        ∨ (s.limits.quiet = .zero ∧ s.events.quiet = none)) := by
  obtain ⟨acked, reply, done, quiet, ok⟩ : ∃ acked reply,
      ackEventsRule (some (.ackEvents set true)) m.body s = (acked, reply)
      ∧ acked.events.quiet = (if 0 < s.limits.quiet.micros then some s.limits.quiet.micros else s.events.quiet)
      ∧ reply.status = .ok := ⟨_, _, ackEventsRule_eq s set true m.body, by simp, rfl⟩
  have taken := flagged.rule bank (k := .ackEvents) rfl (some (.ackEvents set true)) m.body
  rw [done] at taken
  have follows : s.Follows (acked.finish r m reply) := taken.finish r m reply
  have ended := Host.Outcome.next.inj (ran.symm.trans (exec_ackEvents serves done))
  obtain ⟨-, -, kind, -⟩ := serves
  split at ended <;> subst ended
  · have left := (follows.eventInv inv (store.of_keeps ⟨rfl, rfl⟩)).1
    refine ⟨left.lineInactive ⟨_, by rw [State.finish_sent, List.getLast?_concat], kind, ok⟩, ?_⟩
    by_cases calls : (acked.finish r m reply).lineInactive.events.calls
    · have stopped : (acked.finish r m reply).events.quiet = none := calls.1
      rw [State.finish_quiet, quiet] at stopped
      split at stopped
      · cases stopped
      · rename_i zero
        refine .inr (.inr ⟨?_, stopped⟩)
        revert zero
        cases s.limits.quiet <;> decide
    · exact .inl (iff_of_false Bool.false_ne_true calls)
  · exact (follows.eventInv inv store).imp_right (Or.imp_right .inl)

/-- Every command but the end of an attention service. -/
theorem State.Flagged.exec {s t : State} {c : Instr} (flagged : s.Flagged) (bank : BankInv s.bank)
    (ran : exec c s = .next t) (unended : c = .ackEvents → ¬s.endsService = true) : s.Follows t := by
  by_cases ack : c = .ackEvents
  · have driven : ¬(s.endsService && !s.expiryWaits) = true := fun h => unended ack (Bool.and_elim_left h)
    subst ack
    obtain rfl := Host.Outcome.next.inj ran
    change s.Follows (if _ then _ else _)
    rw [if_neg driven]
    exact flagged.serve bank rfl
  · exact flagged.taken bank ack (exec_taken ran)

/-- Every command keeps the invariant, and the line follows its condition or stands, but for the end of an attention
service at a quiet time of 0. -/
theorem EventInv.exec {s t : State} {c : Instr} (inv : EventInv s) (flagged : s.Flagged) (bank : BankInv s.bank)
    (ran : exec c s = .next t) (store : StoreInv t) : EventInv t
      ∧ (t.events.lineFollows ∨ s.events.lineStands t.events
        ∨ ∃ r m set, c = .ackEvents ∧ s.Serves r m (.ackEvents set true) ∧ s.limits.quiet = .zero
            ∧ s.events.quiet = none) := by
  by_cases ends : c = .ackEvents ∧ s.endsService = true
  · obtain ⟨rfl, ends⟩ := ends
    obtain ⟨r, m, set, serves⟩ := State.serves_of_endsService ends
    exact (inv.acked flagged bank serves ran store).imp_right
      (Or.imp_right (Or.imp_right fun quiet => ⟨r, m, set, rfl, serves, quiet⟩))
  · have follows := flagged.exec bank ran fun ack ended => ends ⟨ack, ended⟩
    exact (follows.eventInv inv store).imp_right (Or.imp_right .inl)

/-- Settles O60: an idle step stops and starts no quiet timer, every other event ends with flags and line as their
conditions say, and ACK_EVENTS alone may drive the line inactive behind its end. -/
theorem eventsStayInStep : Obligations.EventsStayInStep := by
  intro s t store bank inv ran
  have storeLeft : StoreInv t := storeStaysConsistent s t store ran
  unfold step at ran
  split at ran
  · obtain rfl := Host.Outcome.next.inj ran
    have ticked : s.Follows s.tick := by
      refine .still ⟨rfl, rfl⟩ rfl (fun i => ?_) rfl rfl (by simp [State.tick, elapse])
      simp [State.link, State.tick, LinkSlot.elapse]
    exact (ticked.eventInv inv storeLeft).imp_right (Or.imp_right Or.inr)
  · rename_i c rest pending
    have queued : EventInv { s with pending := rest } := inv.still ⟨rfl, rfl⟩ rfl (fun _ => rfl) rfl rfl .rfl rfl
    have flagged := queued.flagged (store.of_keeps ⟨rfl, rfl⟩)
    obtain ⟨left, line | stands | ⟨r, m, set, rfl, serves, quiet⟩⟩ := queued.exec flagged bank ran storeLeft
    · exact ⟨left, .inl line⟩
    · exact ⟨left, .inr (.inr stands)⟩
    · exact ⟨left, .inr (.inl ⟨rest, r, m, set, pending, serves, quiet⟩)⟩

end Sys2Proof.Machine
end

section
/-! The part after reset, power-on and the RESET line (O4, O5, O53), and START, the limits and READ_STATUS (O51). -/

namespace Sys2Proof.Machine

/-! ## The part after reset -/

/-- After reset every event is masked (R190). -/
theorem reset_masked (e : Event) : State.reset.events.mask.getLsbD e.num = true := by
  have numbered : e.num < 17 := by cases e <;> decide
  exact BitVec.getLsbD_allOnes.trans (decide_eq_true numbered)

/-- After reset every profile slot but slot 0 is FREE and cleared (R100). -/
theorem reset_slot_free {i : ProfileId} (other : i ≠ 0) : State.reset.bank.slots.get i = .cleared .free := by
  fin_cases i
  · exact absurd rfl other
  all_goals rfl

/-- After reset every requester but requester 0 is UNUSED (R175). -/
theorem reset_entry_unused {r : RequesterId} (other : r ≠ 0) : State.reset.entry r = .unused := by
  change ((Vector.replicate 16 PortEntry.unused).set 0 PortEntry.master)[r.val] = _
  rw [Vector.getElem_set, if_neg fun zero => other (Fin.ext zero.symm), Vector.getElem_replicate]

/-- The reset state is a part that power-on put into its initial state, the 2 ms of R195 past. -/
theorem reset_initialized : State.reset.initialized false 0 = State.reset := rfl

/-- Settles O4: the state after reset, block by block. -/
theorem resetState : Obligations.ResetState := by
  refine ⟨rfl, rfl, ?contexts, rfl, rfl, rfl, rfl, ?counts, rfl, rfl, rfl, rfl, ?slots, rfl, rfl, rfl, ?links, rfl, rfl,
    rfl, ?entries, rfl, rfl, ?mask, rfl, rfl, rfl, rfl⟩
  case contexts => exact fun _ => rfl
  case counts => exact Four.get_all 0
  case slots => exact fun _ => reset_slot_free
  case links => exact Four.get_all LinkSlot.initial
  case entries => exact fun _ => reset_entry_unused
  case mask => exact reset_masked

/-- Settles O5: both put every block into its initial state (`State.initialized`), and an asserted line is released. -/
theorem powerOnAndReset : Obligations.PowerOnAndReset :=
  fun _ => ⟨rfl, rfl, fun asserted => congrArg Host.Outcome.next (if_pos asserted)⟩

/-- Settles O53: the invariants of an empty store with the Migration Engine in its initial state, and those of the
other blocks after reset. -/
theorem resetKeepsEveryRule : Obligations.ResetKeepsEveryRule where
  left := .of_cleared rfl rfl
  right := by
    have coverage : CoverageInv State.reset := (ProfileInv.of_quiet BankInv.reset rfl).coverage
    have dark : DarkInv State.reset := .of_cleared rfl rfl (by decide)
    have arbiter : ArbiterInv State.reset := reset_initialized ▸ ArbiterInv.of_initialized State.reset false 0
    have events : EventInv State.reset := reset_initialized ▸ EventInv.reset (s := State.reset) false 0
    exact ⟨BankInv.reset, coverage, dark, LinkInv.reset, .of_cleared rfl rfl, arbiter, events⟩

/-! ## SET_LIMITS (R197) -/

theorem clamp_eq {low high : Nat} (order : low ≤ high) (v : Nat) :
    clamp low high v = if v < low then low else if high < v then high else v := by
  unfold clamp
  (repeat' split) <;> omega

/-- A value is replaced exactly where it is outside its range. -/
theorem clamp_ne_iff {low high : Nat} (order : low ≤ high) (v : Nat) :
    clamp low high v ≠ v ↔ v < low ∨ high < v := by
  unfold clamp
  omega

theorem flagField_clamp {low high : Nat} (order : low ≤ high) (v : Nat) :
    flagField (clamp low high v ≠ v) = octets 1 (if v < low ∨ high < v then 1 else 0) := by
  rw [decide_eq_decide.2 (clamp_ne_iff order v), flagField_decide]

theorem QuietTime.ofCode_eq (n : Nat) : QuietTime.ofCode n =
    if n = 0 then .zero else if n = 1 then .us50 else if n = 2 then .ms1 else .ms10 := by
  unfold QuietTime.ofCode
  split
  case h_4 zero one two => rw [if_neg zero, if_neg one, if_neg two]
  all_goals rfl

/-! ## START (R196) -/

/-- The record of a slot where START has been: its dwell runs where the slot is in SCAN and its list is not empty
(R150). -/
def State.dwelling (s : State) (i : LinkId) : LinkSlot :=
  if (s.link i).state = .scan ∧ s.candidates i ≠ [] then
    { s.link i with dwell := some ((s.link i).scanDwell * 100000) }
  else s.link i

/-- A slot given the record it has is as it was. -/
theorem State.setLink_link (s : State) (i : LinkId) : s.setLink i (s.link i) = s := by
  have same : s.links.set i (s.links.get i) = s.links := Four.ext_get fun j => by
    rw [Four.get_set]
    split
    · next here => rw [here]
    · rfl
  rw [State.setLink, State.link, same]

theorem State.startDwell_eq (s : State) (i : LinkId) : s.startDwell i = s.setLink i (s.dwelling i) := by
  by_cases dwells : (s.link i).state = .scan ∧ s.candidates i ≠ []
  · rw [State.dwelling, if_pos dwells, ← LinkSlot.dwellMicros_eq]
    exact if_pos dwells
  · rw [State.dwelling, if_neg dwells, State.setLink_link]
    exact if_neg dwells

theorem State.dwelling_setLink_other {i j : LinkId} (other : j ≠ i) (s : State) (l : LinkSlot) :
    (s.setLink i l).dwelling j = s.dwelling j := by
  have record : (s.setLink i l).link j = s.link j := State.link_setLink_other other s l
  have list : (s.setLink i l).candidates j = s.candidates j := by
    rw [State.candidates_eq, record, State.setLink_live, State.candidates_eq]
  rw [State.dwelling, State.dwelling, record, list]

/-- START takes the slots one by one, and none changes what the others come to. -/
theorem State.foldl_startDwell (s : State) : slotIds.foldl State.startDwell s =
    { s with links := ⟨s.dwelling 0, s.dwelling 1, s.dwelling 2, s.dwelling 3⟩ } := by
  simp (disch := decide) only [slotIds, List.foldl_cons, List.foldl_nil, State.startDwell_eq,
    State.dwelling_setLink_other]
  rfl

theorem startRule_running {s : State} (running : s.runState = .running) (b : List Byte) :
    startRule (some .start) b s = (s, .refusal .wrongState) := if_pos running

theorem startRule_configuring {s : State} (stopped : s.runState = .configuring) (b : List Byte) :
    startRule (some .start) b s =
      ({ s with runState := .running, links := ⟨s.dwelling 0, s.dwelling 1, s.dwelling 2, s.dwelling 3⟩ },
        .ok (octets 4 s.clock ++ octets 2 s.live.zone ++ octets 2 s.bank.presentZone
          ++ octets 1 s.coverage.mode.code ++ s.limits.octets)) := by
  have stopped : ¬s.runState = .running := by simp [stopped]
  simp only [startRule, if_neg stopped, State.foldl_startDwell]
  rfl

/-! ## READ_STATUS (R199) -/

theorem State.linkStatuses_eq (s : State) : slotIds.flatMap s.linkStatus =
    s.linkStatus 0 ++ s.linkStatus 1 ++ s.linkStatus 2 ++ s.linkStatus 3 := by
  simp [slotIds]

/-- Settles O51: the limits clamp by clamp, START in both run states, and the status report field by field. -/
theorem limitsStartAndStatus : Obligations.LimitsStartAndStatus := by
  intro s r m limitOctets
  refine ⟨?limits, ?start, ?status⟩
  case limits =>
    intro probation idle linger hold quiet serves held changed l
    have flag {low high : Nat} (order : low ≤ high) (v : Nat) : flagField (clamp low high v ≠ v) = changed low high v :=
      flagField_clamp order v
    have quietFlag : flagField (3 < quiet) = changed 0 3 quiet := by simp [changed, flagField_decide]
    have limits : (⟨clamp 5 120 probation, clamp 60 86400 idle, clamp 0 600 linger, clamp 1 2000 hold,
        QuietTime.ofCode quiet⟩ : Limits) = l := by
      simp only [clamp_eq, QuietTime.ofCode_eq, Nat.reduceLeDiff]
      rfl
    refine exec_ruled (rule := setLimitsRule) serves rfl ?_
    simp only [setLimitsRule, flag, quietFlag, limits, Nat.reduceLeDiff]
    rfl
  case start =>
    intro serves dwelling
    exact ⟨fun running => exec_ruled serves rfl (startRule_running running m.body),
      fun stopped => exec_ruled serves rfl (startRule_configuring stopped m.body)⟩
  case status =>
    intro serves link
    refine exec_ruled (rule := readStatusRule) serves rfl (Prod.ext rfl (congrArg Reply.ok ?_))
    unfold State.statusFields
    rw [s.linkStatuses_eq]
    cases s.migration.walk <;> simp only [State.slotAndZone, List.append_assoc] <;> rfl

end Sys2Proof.Machine
end

section
/-! SUPPORT. The queue of commands that wait is the model's own field, and no block of the part reads or writes it
(notes/assumptions/4.md): what every shared operation and every rule of a request kind leaves of it. -/

namespace Sys2Proof.Machine

namespace State

/-! ## Contexts, orders and events -/

@[simp] theorem commit_pending (s : State) (h : Handle) (c : Context) : (s.commit h c).pending = s.pending := by
  rw [s.commit_frame]

@[simp] theorem retireContext_pending (s : State) (h : Handle) : (s.retireContext h).pending = s.pending := by
  unfold State.retireContext
  split <;> exact s.commit_pending h _

@[simp] theorem joinLost_pending (s : State) (i : LinkId) : (s.joinLost i).pending = s.pending := by
  rw [s.joinLost_frame]

@[simp] theorem dropShift_pending (s : State) : s.dropShift.pending = s.pending := by
  rw [s.dropShift_frame]

@[simp] theorem orderUnpark_pending (s : State) : s.orderUnpark.pending = s.pending := by
  unfold State.orderUnpark
  split <;> rfl

@[simp] theorem clearVoyage_pending (s : State) : s.clearVoyage.pending = s.pending := by
  rw [s.clearVoyage_eq]

@[simp] theorem tellReport_pending (s : State) (h : Handle) (tags : List Byte) (met : Bool) :
    (s.tellReport h tags met).pending = s.pending := by
  rw [← Bool.decide_coe met, s.tellReport_eq]

@[simp] theorem disableQueue_pending (s : State) (r : RequesterId) (queue : List Message) :
    (s.disableQueue r queue).pending = s.pending := by
  rw [s.disableQueue_eq]

/-- A change of one kind made for each member of a list. -/
theorem foldl_pending {α : Type} {f : State → α → State} (each : ∀ t a, (f t a).pending = t.pending)
    (list : List α) (s : State) : (list.foldl f s).pending = s.pending := by
  induction list generalizing s with
  | nil => rfl
  | cons a rest ih => exact (ih _).trans (each s a)

/-! ## Link slots -/

/-- The operations of the Link Supervisor leave the queue. -/
theorem linkClosed_pending (queue : List Instr) : LinkClosed fun t => t.pending = queue where
  setLink _ _ same := same
  raise _ _ same := same
  joinLost i same := (joinLost_pending _ i).trans same

@[simp] theorem demote_pending (s : State) (i : LinkId) : (s.demote i).pending = s.pending :=
  (linkClosed_pending _).demote i rfl

@[simp] theorem configureSlot_pending (s : State) (i : LinkId) (new : LinkSlot) :
    (s.configureSlot i new).pending = s.pending := (linkClosed_pending _).configureSlot i new rfl

@[simp] theorem probe_pending (s : State) (i : LinkId) (success : Bool) (quality operator : Nat) :
    (s.probe i success quality operator).pending = s.pending :=
  (linkClosed_pending _).probe i success quality operator rfl

theorem startDwell_pending (s : State) (i : LinkId) : (s.startDwell i).pending = s.pending := by
  rw [s.startDwell_eq, s.setLink_pending]

/-! ## Coverage and profiles -/

@[simp] theorem recompute_pending (s : State) : s.recompute.1.pending = s.pending := by
  rw [s.recompute_frame]

theorem expireGrace_pending (s : State) : s.expireGrace.pending = s.pending := by
  rw [s.expireGrace_frame]

theorem handOver_pending (s : State) : s.handOver.pending = s.pending :=
  (linkClosed_pending _).zoneChanges slotIds s.recompute_pending

@[simp] theorem promote_pending (s : State) (i : ProfileId) : (s.promote i).pending = s.pending := by
  rw [State.promote, handOver_pending, exchangeRoles_frame]

@[simp] theorem stage_pending (s : State) (i : ProfileId) : (s.stage i).pending = s.pending := by
  have freed (slots : List ProfileId) : (slots.foldl State.freeSlot s).pending = s.pending :=
    foldl_pending State.freeSlot_pending slots s
  unfold State.stage
  dsimp only
  split <;> exact freed _

@[simp] theorem enterZone_pending (s : State) (zone : Nat) : (s.enterZone zone).pending = s.pending := by
  unfold State.enterZone
  dsimp only
  split
  case h_3 | h_4 => exact promote_pending _ _
  all_goals rfl

/-! ## The ends of services and events -/

theorem conclude_pending (s : State) : s.conclude.pending = s.pending := by
  rw [s.conclude_frame]

@[simp] theorem endHold_pending (s : State) : s.endHold.pending = s.pending := by
  rw [s.endHold_eq]

theorem revokeHold_pending (s : State) : s.revokeHold.pending = s.pending := s.endHold_pending

theorem finish_pending (s : State) (r : RequesterId) (m : Message) (reply : Reply) :
    (s.finish r m reply).pending = s.pending := by
  rw [s.finish_eq, conclude_pending]

theorem answerHold_pending (s : State) : s.answerHold.pending = s.pending := by
  unfold State.answerHold
  repeat' split
  · exact s.finish_pending _ _ _
  all_goals exact s.conclude_pending

theorem arrive_pending (s : State) (r : RequesterId) (m : Message) : (s.arrive r m).pending = s.pending := by
  unfold State.arrive
  dsimp only
  (repeat' split) <;> rfl

/-! ## The sweep's visit and the walk steps -/

theorem visit_pending (s : State) (h : Handle) : (s.visit h).pending = s.pending := by
  unfold State.visit
  dsimp only
  (repeat' split) <;> simp [State.raiseRetired]

theorem failoverWork_pending (s : State) (h : Handle) : (s.failoverWork h).pending = s.pending := by
  unfold State.failoverWork
  dsimp only
  split
  · split
    · split <;> exact s.commit_pending h _
    · rfl
  all_goals rfl

theorem shiftWork_pending (s : State) (h : Handle) : (s.shiftWork h).pending = s.pending := by
  unfold State.shiftWork
  dsimp only
  split
  · rfl
  · split
    · exact s.commit_pending h _
    · rfl

theorem unparkWork_pending (s : State) (h : Handle) : (s.unparkWork h).pending = s.pending := by
  unfold State.unparkWork
  dsimp only
  repeat' split
  · exact s.commit_pending h _
  all_goals rfl

theorem darkWork_pending (s : State) (h : Handle) : (s.darkWork h).pending = s.pending := by
  unfold State.darkWork
  split
  case h_1 | h_2 => exact s.commit_pending h _
  all_goals rfl

/-- A walk's work at a handle is at most one write of its context, and a count. -/
theorem work_pending (k : WalkKind) (h : Handle) (s : State) : (k.work h s).pending = s.pending := by
  cases k with
  | failover => exact s.failoverWork_pending h
  | shift => exact s.shiftWork_pending h
  | unpark => exact s.unparkWork_pending h
  | dark => exact s.darkWork_pending h

theorem complete_pending (k : WalkKind) (s : State) : (k.complete s).pending = s.pending := by
  cases k with
  | failover =>
    change s.failoverComplete.pending = _
    rw [failoverComplete_eq, nextWalk_pending]
  | shift => rfl
  | unpark => rfl
  | dark => rfl

theorem walked_pending (s : State) (w : Walk) : (s.walked w).pending = s.pending := by
  have worked : (w.kind.work w.cursor s).pending = s.pending := work_pending _ _ s
  unfold State.walked
  dsimp only
  split
  · exact (complete_pending _ _).trans worked
  · exact worked

end State

/-! ## The rules of the request kinds -/

/-- Every rule gives the state as it was, or operations above on it. -/
theorem rule_pending {k : Kind} {rule : Option Request → List Byte → State → State × Reply}
    (ruled : k.rule = some rule) (q : Option Request) (b : List Byte) (s : State) :
    (rule q b s).1.pending = s.pending := by
  cases k
  case holdStore => cases ruled
  all_goals obtain rfl := Option.some.inj ruled
  -- One write of a context, with at most one event.
  case attach | lookup | lookupHandle | openBearer | closeBearer | detach | retire | admitContext | refuse
      | nextProbation | nextSettlement | settleContext | addAllowance | removeAllowance | setCap | setPlan =>
    simp only [attachRule, lookupRule, lookupHandleRule, openBearerRule, closeBearerRule, detachRule, retireRule,
      admitContextRule, refuseRule, nextProbationRule, nextSettlementRule, settleContextRule, addAllowanceRule,
      removeAllowanceRule, setCapRule, setPlanRule]
    (repeat' split) <;> simp [State.raiseRetired]
  -- The operations of the profiles, the coverage, the links and the hold.
  case openProfile | writeProfileHeader | writeTariffRow | writeCandidates | readProfile | discardProfile | stageProfile
      | enterZone | setCeiling | configureLink | probeResult | openLink | closeLink | setRoute | readRoute | abortShift
      | releaseStore | readEvents | readStatus | clearVoyage =>
    simp only [openProfileRule, writeProfileHeaderRule, writeTariffRowRule, writeCandidatesRule, readProfileRule,
      discardProfileRule, stageProfileRule, enterZoneRule, setCeilingRule, configureLinkRule, probeResultRule,
      openLinkRule, closeLinkRule, setRouteRule, readRouteRule, abortShiftRule, releaseStoreRule, readEventsRule,
      readStatusRule, clearVoyageRule]
    (repeat' split) <;> simp
  -- One block written outright.
  case clearRoute | shift | setEventMask | ackEvents | setLimits =>
    simp only [clearRouteRule, shiftRule, setEventMaskRule, ackEventsRule, setLimitsRule]
    (repeat' split) <;> rfl
  case reportUsage =>
    unfold reportUsageRule
    dsimp only
    split
    · split
      · rfl
      · exact (State.tellReport_pending (s.commit _ _) _ _ _).trans (s.commit_pending _ _)
    · rfl
  case configureRequester =>
    unfold configureRequesterRule
    split
    · exact s.disableQueue_pending _ _
    · rfl
  case start =>
    unfold startRule
    repeat' split
    · rfl
    · exact State.foldl_pending State.startDwell_pending slotIds _
    · rfl

end Sys2Proof.Machine
end

section
/-! A step takes the front command (O1), and every command goes on and leaves the queue (O3). -/

namespace Sys2Proof.Machine

/-- No arm of the dispatch faults or refuses (log entry 13). -/
theorem exec_next (c : Instr) (s : State) : ∃ t, exec c s = .next t := by
  cases c <;> exact ⟨_, rfl⟩

/-- Whatever a command does, it leaves the queue: a reset keeps it outright, a rule and a walk step by their frames. -/
theorem State.Taken.pending {s t : State} {c : Instr} (taken : s.Taken c t) : t.pending = s.pending := by
  induction taken with
  | reset => rfl
  | skipped => rfl
  | answered => exact s.finish_pending _ _ _
  | ruled ruled => exact (State.finish_pending _ _ _ _).trans (rule_pending ruled _ _ s)
  | lineInactive _ ih => exact ih
  | holdRequested => exact State.conclude_pending _
  | holdGranted => exact State.answerHold_pending _
  | holdExpiring => rfl
  | holdExpired => exact (State.conclude_pending _).trans s.revokeHold_pending
  | clocked => exact State.conclude_pending _
  | visited => exact (State.conclude_pending _).trans (s.visit_pending _)
  | walked => exact (State.conclude_pending _).trans (s.walked_pending _)
  | arrived => exact (State.conclude_pending _).trans (s.arrive_pending _ _)
  | graceEnded => exact (State.conclude_pending _).trans s.expireGrace_pending
  | dwellEnded => exact State.conclude_pending _
  | trackLost => exact State.conclude_pending _
  | carryLapsed => exact (State.conclude_pending _).trans (s.demote_pending _)
  | quietEnded => exact State.conclude_pending _
  | released => rfl

/-- Settles O3: no arm of the dispatch stops, and what the command did left the queue. -/
theorem everyCommandGoesOn : Obligations.EveryCommandGoesOn := by
  intro c s
  obtain ⟨t, ran⟩ := exec_next c s
  exact ⟨t, ran, (exec_taken ran).pending⟩

/-- Settles O1: `step` splits the queue, and `exec` runs with the rest in its place. -/
theorem stepTakesFrontCommand : Obligations.StepTakesFrontCommand := fun _ _ _ => rfl

end Sys2Proof.Machine
end
